-- ==== Sys2Proof/Word.lean ====
section
/-! DEFINITION. Word.lean: the byte and the register number.
Every register of the block is 8 bits, each channel has 16 write and 16 read registers, the register pointer is
4 bits (R5, last paragraph; R6, R7). -/

namespace Sys2Proof

/-- A byte (R7): 8 bits, bit 0 least significant (R6). -/
abbrev Byte := BitVec 8

/-- A register number, 0 to 15 (R81). -/
abbrev RegNum := Fin 16

end Sys2Proof
end

