-- ==== Sys2Proof/Syntax.lean ====
section
/-! DEFINITION. Syntax.lean: the operations applied at the block's interface (R110, R111) and the 49 decodable cases of
the opcode table (R121). -/

namespace Sys2Proof

/-- A channel: A is number 0, B is number 1; no other value exists (R120). -/
inductive Channel where
  | A
  | B
deriving DecidableEq, Repr, Inhabited

/-- The kind of an operation: one of the twelve names of R110. -/
inductive Kind where
  | writeControl
  | readControl
  | writeData
  | readData
  | advance
  | setDcd
  | setCts
  | receiveByte
  | sendByte
  | inputBufferFull
  | outputBufferEmpty
  | reset
deriving DecidableEq, Repr

/-- The operand of an operation (R111): a byte, a boolean, a natural number, or absent. -/
inductive Operand where
  | absent
  | byte (v : Byte)
  | bool (b : Bool)
  | nat (n : Nat)
deriving DecidableEq, Repr

/-- An operation as it is applied at the interface: the triple (kind, channel, operand) of R111. Which triples are
operations is `Operation.wellFormed` (WellFormed.lean). -/
structure Operation where
  kind : Kind
  channel : Option Channel
  operand : Operand
deriving DecidableEq, Repr

/-- One constructor per row of the opcode table. The `wc0` rows carry the channel of the write and the two fields of
the byte that the row leaves free, `rsv` (bits 7 to 6) and `ptr` (bits 2 to 0) (R112); the `wc.WRn` rows and `wd` the
channel and the data byte; the reads the channel; the entry points their operands (R110). Every operand is valid at
every value of its type (R110, R120). -/
inductive Instr where
  | wc0Null (c : Channel) (rsv : BitVec 2) (ptr : BitVec 3)
  | wc0PointHigh (c : Channel) (rsv : BitVec 2) (ptr : BitVec 3)
  | wc0ResetExtStatusInt (c : Channel) (rsv : BitVec 2) (ptr : BitVec 3)
  | wc0SendAbort (c : Channel) (rsv : BitVec 2) (ptr : BitVec 3)
  | wc0EnableIntNextRx (c : Channel) (rsv : BitVec 2) (ptr : BitVec 3)
  | wc0ResetTxIntPending (c : Channel) (rsv : BitVec 2) (ptr : BitVec 3)
  | wc0ErrorReset (c : Channel) (rsv : BitVec 2) (ptr : BitVec 3)
  | wc0ResetHighestIus (c : Channel) (rsv : BitVec 2) (ptr : BitVec 3)
  | wcWR1 (c : Channel) (v : Byte)
  | wcWR2 (c : Channel) (v : Byte)
  | wcWR3 (c : Channel) (v : Byte)
  | wcWR4 (c : Channel) (v : Byte)
  | wcWR5 (c : Channel) (v : Byte)
  | wcWR6 (c : Channel) (v : Byte)
  | wcWR7 (c : Channel) (v : Byte)
  | wcWR8 (c : Channel) (v : Byte)
  | wcWR9 (c : Channel) (v : Byte)
  | wcWR10 (c : Channel) (v : Byte)
  | wcWR11 (c : Channel) (v : Byte)
  | wcWR12 (c : Channel) (v : Byte)
  | wcWR13 (c : Channel) (v : Byte)
  | wcWR14 (c : Channel) (v : Byte)
  | wcWR15 (c : Channel) (v : Byte)
  | rcRR0 (c : Channel)
  | rcRR1 (c : Channel)
  | rcRR2 (c : Channel)
  | rcRR3 (c : Channel)
  | rcRR4 (c : Channel)
  | rcRR5 (c : Channel)
  | rcRR6 (c : Channel)
  | rcRR7 (c : Channel)
  | rcRR8 (c : Channel)
  | rcRR9 (c : Channel)
  | rcRR10 (c : Channel)
  | rcRR11 (c : Channel)
  | rcRR12 (c : Channel)
  | rcRR13 (c : Channel)
  | rcRR14 (c : Channel)
  | rcRR15 (c : Channel)
  | wd (c : Channel) (v : Byte)
  | rd (c : Channel)
  | adv (n : Nat)
  | dcd (c : Channel) (active : Bool)
  | cts (c : Channel) (active : Bool)
  | rxb (c : Channel) (v : Byte)
  | txb (c : Channel)
  | ibf (c : Channel)
  | obe (c : Channel)
  | rst
deriving DecidableEq, Repr

end Sys2Proof
end

