-- ==== Sys2Proof/Config.lean ====
section
/-! DEFINITION. Config.lean: the parameters P1 to P24 of R5 as one record of plain data, and the free functions that
stand for the parameters whose value is a function (P17, P20). The record's reference value CFG_REF is `Cfg.ref`
(Machine/Defaults.lean). -/

namespace Sys2Proof

/-- One value for each channel. -/
structure PerChannel (α : Type) where
  a : α
  b : α
deriving DecidableEq, Repr

/-- The value of channel `c`. -/
def PerChannel.get {α : Type} (p : PerChannel α) : Channel → α
  | .A => p.a
  | .B => p.b

/-- P6, RX_LATCH_FULL_POLICY (R252). -/
inductive LatchFullPolicy where
  | hold
  | drop
  | overwrite
deriving DecidableEq, Repr

/-- The parity of a channel's format (R53, R236). -/
inductive Parity where
  | none
  | odd
  | even
deriving DecidableEq, Repr, Inhabited

/-- What `clock_mode_multiplier` can return (R233): 1, 16, 32 or 64. -/
inductive ClockMultiplier where
  | x1
  | x16
  | x32
  | x64
deriving DecidableEq, Repr, Inhabited

/-- The multiplier as a number. -/
def ClockMultiplier.toNat : ClockMultiplier → Nat
  | .x1 => 1
  | .x16 => 16
  | .x32 => 32
  | .x64 => 64

/-- What `stop_bits_x2_of` can describe (R53, R235): no stop bit (synchronous), one, one and a half, two. -/
inductive StopBits where
  | zero
  | one
  | oneAndHalf
  | two
deriving DecidableEq, Repr, Inhabited

/-- Twice the number of stop bits, "to represent halves" (R53): 2, 3 or 4, and 0 in synchronous mode. -/
def StopBits.x2 : StopBits → Nat
  | .zero => 0
  | .one => 2
  | .oneAndHalf => 3
  | .two => 4

/-- What `brg_source` can return (R239). -/
inductive ClockSource where
  | pclk
  | rtxc
deriving DecidableEq, Repr, Inhabited

/-- Which function a function-valued parameter is: the spec's default, or the `k`-th free function, of which nothing is
known but its type. -/
inductive Variant where
  | default
  | free (k : Nat)
deriving DecidableEq, Repr

/-- Which function `bits_per_char_of` is (P17, R237): the default, or the `k`-th free function, with the registers it
reads. It is handed WR3 and WR5 "so either can be used" (N17 of 91_not_in_source.md), and P18 asks which of them it
reads. -/
inductive BitsPerCharVariant where
  | default
  | free (k : Nat) (readsWr3 readsWr5 : Bool)
deriving DecidableEq, Repr

/-- P17, `decode`: which function each of the eight functions of R233 to R240 is. -/
structure DecodeChoice where
  clockModeMultiplier : Variant
  syncMode : Variant
  stopBitsX2Of : Variant
  parityOf : Variant
  bitsPerCharOf : BitsPerCharVariant
  brgEnabled : Variant
  brgSource : Variant
  timeConstant : Variant
deriving DecidableEq, Repr

/-- P9, which optional sinks are bound: one for the chip, four per channel (R54). -/
structure Sinks where
  irq : Bool
  inputAvailable : PerChannel Bool
  outputByte : PerChannel Bool
  rts : PerChannel Bool
  paramsChanged : PerChannel Bool
deriving DecidableEq, Repr

/-- P24, PARITY_CODE: the number handed to the parameters sink for each parity (R297). -/
structure ParityCode where
  none : Nat
  odd : Nat
  even : Nat
deriving DecidableEq, Repr

/-- The number of a parity. -/
def ParityCode.of (p : ParityCode) : Parity → Nat
  | .none => p.none
  | .odd => p.odd
  | .even => p.even

/-- The parameter record of R5. `packetMode` says whether the configuration asks for the packet-oriented framing that
R3 (c) excludes; the step refuses it. -/
structure Cfg where
  /-- P1, `master_clock_rate`. -/
  pclk : Nat
  /-- P2, `external_clock_input`. -/
  rtxc : PerChannel Nat
  /-- P3, slots of each ring buffer; a buffer holds at most one less. -/
  ringCap : Nat
  /-- P4, the read quota granted by a character tick. -/
  multiR : PerChannel Nat
  /-- P5, the write quota granted by a character tick. -/
  multiW : PerChannel Nat
  /-- P6. -/
  latchFullPolicy : LatchFullPolicy
  /-- P7. -/
  rxOverrunReport : Bool
  /-- P8. -/
  txEmptySentinel : Byte
  /-- P9. -/
  sinks : Sinks
  /-- P10. -/
  rr0RxAvail : Byte
  /-- P11. -/
  rr0TxEmpty : Byte
  /-- P12. -/
  rr0Dcd : Byte
  /-- P13. -/
  rr0Cts : Byte
  /-- P14. -/
  rr0Underrun : Byte
  /-- P15. -/
  rr1AllSent : Byte
  /-- P16. -/
  rr1Overrun : Byte
  /-- P17. -/
  decode : DecodeChoice
  /-- P18, the registers whose write recomputes the divisor. -/
  formatRegs : List RegNum
  /-- P19, the read registers that return the write register of the same number. -/
  mirrorRR : List RegNum
  /-- P20, `vector_encode`. -/
  vectorEncode : Variant
  /-- P21. -/
  extActiveSetsBit : Bool
  /-- P22. -/
  underrunExtInt : Bool
  /-- P23. -/
  sharedWrMirror : Bool
  /-- P24. -/
  parityCode : ParityCode
  /-- The configuration asks for packet framing (R3 (c), U9). -/
  packetMode : Bool
deriving DecidableEq, Repr

/-- A free `clock_mode_multiplier(w4)` (P17, R233). -/
opaque Config.freeClockModeMultiplier : Nat → Byte → ClockMultiplier

/-- A free `sync_mode(w4)` (P17, R234). -/
opaque Config.freeSyncMode : Nat → Byte → Bool

/-- A free `stop_bits_x2_of(w4)` (P17, R235). -/
opaque Config.freeStopBitsX2Of : Nat → Byte → StopBits

/-- A free `parity_of(w4)` (P17, R236). -/
opaque Config.freeParityOf : Nat → Byte → Parity

/-- A free `bits_per_char_of(w3, w5)` (P17, R237); one that does not read a register is handed 0 for it. -/
opaque Config.freeBitsPerCharOf : Nat → Byte → Byte → Nat

/-- A free `brg_enabled(w14)` (P17, R238). -/
opaque Config.freeBrgEnabled : Nat → Byte → Bool

/-- A free `brg_source(w14)` (P17, R239). -/
opaque Config.freeBrgSource : Nat → Byte → ClockSource

/-- A free `time_constant(w12, w13)`, a number from 0 to 65535 (P17, R240). -/
opaque Config.freeTimeConstant : Nat → Byte → Byte → BitVec 16

/-- A free `vector_encode(w2, w9, rr3, c)` (P20, R203). -/
opaque Config.freeVectorEncode : Nat → Byte → Byte → Byte → Channel → Byte

end Sys2Proof
end

