-- ==== Sys2Proof/WellFormed.lean ====
section
/-! DEFINITION. WellFormed.lean: which triples are operations (R110, R111), and the constraints a configuration must
meet (R5; R216's note on MIRROR_RR). An `Instr` needs no check: each of its operands is valid at every value (R110). -/

namespace Sys2Proof

/-- The channel is present for all kinds but `advance` and `reset` (R111). -/
def Kind.hasChannel : Kind → Bool
  | .advance | .reset => false
  | _ => true

/-- The operand a kind takes (R111): a byte for `write_control`, `write_data`, `receive_byte`, a boolean for `set_dcd`,
`set_cts`, a natural number for `advance`, absent otherwise. -/
def Kind.takes : Kind → Operand → Bool
  | .writeControl, .byte _ | .writeData, .byte _ | .receiveByte, .byte _ => true
  | .setDcd, .bool _ | .setCts, .bool _ => true
  | .advance, .nat _ => true
  | .readControl, .absent | .readData, .absent | .sendByte, .absent => true
  | .inputBufferFull, .absent | .outputBufferEmpty, .absent | .reset, .absent => true
  | _, _ => false

/-- A triple is an operation when its channel and operand are those of its kind (R111). -/
def Operation.wellFormed (op : Operation) : Bool :=
  op.channel.isSome == op.kind.hasChannel && op.kind.takes op.operand

/-- The mask is a single bit. -/
def isSingleBit (m : Byte) : Bool :=
  m != 0#8 && m &&& (m - 1#8) == 0#8

/-- P3 (at least 2), P4 and P5 (at least 1 each). -/
def Cfg.countsOk (cfg : Cfg) : Bool :=
  decide (2 ≤ cfg.ringCap ∧ 1 ≤ cfg.multiR.a ∧ 1 ≤ cfg.multiR.b ∧ 1 ≤ cfg.multiW.a ∧ 1 ≤ cfg.multiW.b)

/-- P10 to P14: five different single bits. -/
def Cfg.rr0MasksOk (cfg : Cfg) : Bool :=
  let ms := [cfg.rr0RxAvail, cfg.rr0TxEmpty, cfg.rr0Dcd, cfg.rr0Cts, cfg.rr0Underrun]
  ms.all isSingleBit && decide ms.Nodup

/-- P15 and P16: two different single bits. -/
def Cfg.rr1MasksOk (cfg : Cfg) : Bool :=
  isSingleBit cfg.rr1AllSent && isSingleBit cfg.rr1Overrun && cfg.rr1AllSent != cfg.rr1Overrun

/-- The registers of WR3 and WR5 that this `bits_per_char_of` reads; the default reads WR5 alone (R237). -/
def BitsPerCharVariant.reads : BitsPerCharVariant → List RegNum
  | .default => [5]
  | .free _ readsWr3 readsWr5 => (if readsWr3 then [3] else []) ++ (if readsWr5 then [5] else [])

/-- The registers that the functions of this `decode` read: WR4, WR12, WR13 and WR14, which the other seven take
(R233 to R236, R238 to R240), and those that `bits_per_char_of` reads. -/
def DecodeChoice.reads (d : DecodeChoice) : List RegNum :=
  [4, 12, 13, 14] ++ d.bitsPerCharOf.reads

/-- P18 must contain every register a `decode` function reads. -/
def Cfg.formatRegsOk (cfg : Cfg) : Bool :=
  cfg.decode.reads.all (cfg.formatRegs.contains ·)

/-- P19: registers 0, 1, 2, 3 and 8 may not be in the set (note after R216). -/
def Cfg.mirrorOk (cfg : Cfg) : Bool :=
  ([0, 1, 2, 3, 8] : List RegNum).all (fun n => !cfg.mirrorRR.contains n)

/-- The constraints a `Cfg` must meet (R5). -/
def Cfg.wellFormed (cfg : Cfg) : Bool :=
  cfg.countsOk && cfg.rr0MasksOk && cfg.rr1MasksOk && cfg.formatRegsOk && cfg.mirrorOk

end Sys2Proof
end

