-- ==== Sys2Proof/Decode.lean ====
section
/-! DEFINITION. Decode.lean: which row of the opcode table an operation is (R112 to R121), the encoder back, the four
bus locations (R80), and the pseudo-operations of R123. -/

namespace Sys2Proof

/-- Why a triple is no operation of R111. -/
inductive DecodeError where
  /-- The kind names a channel and the triple has none. -/
  | missingChannel (k : Kind)
  /-- `advance` and `reset` name no channel and the triple has one. -/
  | unexpectedChannel (k : Kind)
  /-- The operand is not of the sort the kind takes. -/
  | wrongOperand (k : Kind)
deriving DecidableEq, Repr

/-! ### The fields of a register-0 byte (R112) -/

/-- `cmd`, bits 5 to 3. -/
def cmdField (v : Byte) : BitVec 3 := v.extractLsb' 3 3

/-- `ptr`, bits 2 to 0. -/
def ptrField (v : Byte) : BitVec 3 := v.extractLsb' 0 3

/-- `rsv`, bits 7 to 6. -/
def rsvField (v : Byte) : BitVec 2 := v.extractLsb' 6 2

/-- The register-0 byte with these three fields. -/
def commandByte (rsv : BitVec 2) (cmd ptr : BitVec 3) : Byte := rsv ++ cmd ++ ptr

/-- The `match` column of the CW0 rows, in the order of the commands 0 to 7 (R113, R121). -/
def cw0Matches : List Byte := [0x00, 0x08, 0x10, 0x18, 0x20, 0x28, 0x30, 0x38]

/-- The `mask` column of the CW0 rows. -/
def cw0Mask : Byte := 0x38

/-! ### The decoder -/

/-- A write of register 0: the command is `v[5:3]`, numbered 0 to 7 as R113 lists them. -/
def decodeCommand (c : Channel) (v : Byte) : Instr :=
  match (cmdField v).toNat with
  | 0 => .wc0Null c (rsvField v) (ptrField v)
  | 1 => .wc0PointHigh c (rsvField v) (ptrField v)
  | 2 => .wc0ResetExtStatusInt c (rsvField v) (ptrField v)
  | 3 => .wc0SendAbort c (rsvField v) (ptrField v)
  | 4 => .wc0EnableIntNextRx c (rsvField v) (ptrField v)
  | 5 => .wc0ResetTxIntPending c (rsvField v) (ptrField v)
  | 6 => .wc0ErrorReset c (rsvField v) (ptrField v)
  | _ => .wc0ResetHighestIus c (rsvField v) (ptrField v)

/-- `write_control(c, v)` with the register pointer at `ci`: a command byte when the pointer is 0, the content of
write register `ci` otherwise (R112). -/
def decodeWriteControl (ci : BitVec 4) (c : Channel) (v : Byte) : Instr :=
  match ci.toNat with
  | 0 => decodeCommand c v
  | 1 => .wcWR1 c v
  | 2 => .wcWR2 c v
  | 3 => .wcWR3 c v
  | 4 => .wcWR4 c v
  | 5 => .wcWR5 c v
  | 6 => .wcWR6 c v
  | 7 => .wcWR7 c v
  | 8 => .wcWR8 c v
  | 9 => .wcWR9 c v
  | 10 => .wcWR10 c v
  | 11 => .wcWR11 c v
  | 12 => .wcWR12 c v
  | 13 => .wcWR13 c v
  | 14 => .wcWR14 c v
  | _ => .wcWR15 c v

/-- `read_control(c)` with the register pointer at `ci` (R117). -/
def decodeReadControl (ci : BitVec 4) (c : Channel) : Instr :=
  match ci.toNat with
  | 0 => .rcRR0 c
  | 1 => .rcRR1 c
  | 2 => .rcRR2 c
  | 3 => .rcRR3 c
  | 4 => .rcRR4 c
  | 5 => .rcRR5 c
  | 6 => .rcRR6 c
  | 7 => .rcRR7 c
  | 8 => .rcRR8 c
  | 9 => .rcRR9 c
  | 10 => .rcRR10 c
  | 11 => .rcRR11 c
  | 12 => .rcRR12 c
  | 13 => .rcRR13 c
  | 14 => .rcRR14 c
  | _ => .rcRR15 c

/-- The channel of a kind that names one. -/
def needChannel (op : Operation) (k : Channel → Except DecodeError Instr) : Except DecodeError Instr :=
  match op.channel with
  | some c => k c
  | none => .error (.missingChannel op.kind)

/-- No channel, for a kind that names none. -/
def needNoChannel (op : Operation) (k : Except DecodeError Instr) : Except DecodeError Instr :=
  match op.channel with
  | some _ => .error (.unexpectedChannel op.kind)
  | none => k

/-- A byte operand. -/
def needByte (op : Operation) (k : Byte → Instr) : Except DecodeError Instr :=
  match op.operand with
  | .byte v => .ok (k v)
  | _ => .error (.wrongOperand op.kind)

/-- A boolean operand. -/
def needBool (op : Operation) (k : Bool → Instr) : Except DecodeError Instr :=
  match op.operand with
  | .bool b => .ok (k b)
  | _ => .error (.wrongOperand op.kind)

/-- A natural-number operand. -/
def needNat (op : Operation) (k : Nat → Instr) : Except DecodeError Instr :=
  match op.operand with
  | .nat n => .ok (k n)
  | _ => .error (.wrongOperand op.kind)

/-- No operand. -/
def needAbsent (op : Operation) (i : Instr) : Except DecodeError Instr :=
  match op.operand with
  | .absent => .ok i
  | _ => .error (.wrongOperand op.kind)

/-- The row of the opcode table that an operation is, with the register pointer at `ci` (R121: take the kind; for the
two control-port kinds look at the pointer; for a register-0 write match the byte). Every triple of R111 decodes (R119:
no encoding is illegal); any other triple is rejected by name. -/
def decode (ci : BitVec 4) (op : Operation) : Except DecodeError Instr :=
  match op.kind with
  | .writeControl => needChannel op fun c => needByte op fun v => decodeWriteControl ci c v
  | .readControl => needChannel op fun c => needAbsent op (decodeReadControl ci c)
  | .writeData => needChannel op fun c => needByte op fun v => .wd c v
  | .readData => needChannel op fun c => needAbsent op (.rd c)
  | .advance => needNoChannel op (needNat op fun n => .adv n)
  | .setDcd => needChannel op fun c => needBool op fun b => .dcd c b
  | .setCts => needChannel op fun c => needBool op fun b => .cts c b
  | .receiveByte => needChannel op fun c => needByte op fun v => .rxb c v
  | .sendByte => needChannel op fun c => needAbsent op (.txb c)
  | .inputBufferFull => needChannel op fun c => needAbsent op (.ibf c)
  | .outputBufferEmpty => needChannel op fun c => needAbsent op (.obe c)
  | .reset => needNoChannel op (needAbsent op .rst)

/-! ### The encoder -/

/-- The operation `write_control(c, v)`. -/
def writeControlOp (c : Channel) (v : Byte) : Operation := ⟨.writeControl, some c, .byte v⟩

/-- The operation `read_control(c)`. -/
def readControlOp (c : Channel) : Operation := ⟨.readControl, some c, .absent⟩

/-- The operation `write_data(c, v)`. -/
def writeDataOp (c : Channel) (v : Byte) : Operation := ⟨.writeData, some c, .byte v⟩

/-- The operation `read_data(c)`. -/
def readDataOp (c : Channel) : Operation := ⟨.readData, some c, .absent⟩

/-- The operation that an instruction is at the interface, its byte written from the encodings of R112 and R113. -/
def encode : Instr → Operation
  | .wc0Null c rsv ptr => writeControlOp c (commandByte rsv 0#3 ptr)
  | .wc0PointHigh c rsv ptr => writeControlOp c (commandByte rsv 1#3 ptr)
  | .wc0ResetExtStatusInt c rsv ptr => writeControlOp c (commandByte rsv 2#3 ptr)
  | .wc0SendAbort c rsv ptr => writeControlOp c (commandByte rsv 3#3 ptr)
  | .wc0EnableIntNextRx c rsv ptr => writeControlOp c (commandByte rsv 4#3 ptr)
  | .wc0ResetTxIntPending c rsv ptr => writeControlOp c (commandByte rsv 5#3 ptr)
  | .wc0ErrorReset c rsv ptr => writeControlOp c (commandByte rsv 6#3 ptr)
  | .wc0ResetHighestIus c rsv ptr => writeControlOp c (commandByte rsv 7#3 ptr)
  | .wcWR1 c v | .wcWR2 c v | .wcWR3 c v | .wcWR4 c v | .wcWR5 c v => writeControlOp c v
  | .wcWR6 c v | .wcWR7 c v | .wcWR8 c v | .wcWR9 c v | .wcWR10 c v => writeControlOp c v
  | .wcWR11 c v | .wcWR12 c v | .wcWR13 c v | .wcWR14 c v | .wcWR15 c v => writeControlOp c v
  | .rcRR0 c | .rcRR1 c | .rcRR2 c | .rcRR3 c | .rcRR4 c | .rcRR5 c => readControlOp c
  | .rcRR6 c | .rcRR7 c | .rcRR8 c | .rcRR9 c | .rcRR10 c | .rcRR11 c => readControlOp c
  | .rcRR12 c | .rcRR13 c | .rcRR14 c | .rcRR15 c => readControlOp c
  | .wd c v => writeDataOp c v
  | .rd c => readDataOp c
  | .adv n => ⟨.advance, none, .nat n⟩
  | .dcd c b => ⟨.setDcd, some c, .bool b⟩
  | .cts c b => ⟨.setCts, some c, .bool b⟩
  | .rxb c v => ⟨.receiveByte, some c, .byte v⟩
  | .txb c => ⟨.sendByte, some c, .absent⟩
  | .ibf c => ⟨.inputBufferFull, some c, .absent⟩
  | .obe c => ⟨.outputBufferEmpty, some c, .absent⟩
  | .rst => ⟨.reset, none, .absent⟩

/-- The register pointer that selects the instruction's row: 0 for a command, n for `wc.WRn` and `rc.RRn`, none for an
operation that does not look at the pointer (R115, R118, R121). -/
def pointerOf : Instr → Option (BitVec 4)
  | .wc0Null _ _ _ | .wc0PointHigh _ _ _ | .wc0ResetExtStatusInt _ _ _ | .wc0SendAbort _ _ _ => some 0#4
  | .wc0EnableIntNextRx _ _ _ | .wc0ResetTxIntPending _ _ _ | .wc0ErrorReset _ _ _ => some 0#4
  | .wc0ResetHighestIus _ _ _ => some 0#4
  | .wcWR1 _ _ => some 1#4
  | .wcWR2 _ _ => some 2#4
  | .wcWR3 _ _ => some 3#4
  | .wcWR4 _ _ => some 4#4
  | .wcWR5 _ _ => some 5#4
  | .wcWR6 _ _ => some 6#4
  | .wcWR7 _ _ => some 7#4
  | .wcWR8 _ _ => some 8#4
  | .wcWR9 _ _ => some 9#4
  | .wcWR10 _ _ => some 10#4
  | .wcWR11 _ _ => some 11#4
  | .wcWR12 _ _ => some 12#4
  | .wcWR13 _ _ => some 13#4
  | .wcWR14 _ _ => some 14#4
  | .wcWR15 _ _ => some 15#4
  | .rcRR0 _ => some 0#4
  | .rcRR1 _ => some 1#4
  | .rcRR2 _ => some 2#4
  | .rcRR3 _ => some 3#4
  | .rcRR4 _ => some 4#4
  | .rcRR5 _ => some 5#4
  | .rcRR6 _ => some 6#4
  | .rcRR7 _ => some 7#4
  | .rcRR8 _ => some 8#4
  | .rcRR9 _ => some 9#4
  | .rcRR10 _ => some 10#4
  | .rcRR11 _ => some 11#4
  | .rcRR12 _ => some 12#4
  | .rcRR13 _ => some 13#4
  | .rcRR14 _ => some 14#4
  | .rcRR15 _ => some 15#4
  | .wd _ _ | .rd _ | .adv _ | .dcd _ _ | .cts _ _ | .rxb _ _ | .txb _ | .ibf _ | .obe _ | .rst => none

/-! ### The opcode table's words -/

/-- The operation that a table word stands for: the table's only words that fix bits are the bytes of a register-0
write (R111, R112), so the word is that byte, written through channel A (DESIGN CHOICE, log entry 13). -/
def tableWordOp (nbits w : Nat) : Operation := writeControlOp .A (BitVec.ofNat 8 (w % 2 ^ nbits))

/-- The instruction the decoder reads from a table word, with the pointer at 0 as a register-0 byte needs. A row whose
table entry has no byte (nbits is not 8), or a number that is no byte, is not readable from a word (log entry 13). -/
def decodeTableWord (nbits w : Nat) : Option Instr :=
  if nbits = 8 ∧ w < 256 then (decode 0#4 (tableWordOp nbits w)).toOption else none

/-! ### Bus locations and pseudo-operations -/

/-- The two access points of a channel (R80). -/
inductive Port where
  | ctrl
  | data
deriving DecidableEq, Repr

/-- A bus read of the location `(c, p)` (R80). -/
def busRead (c : Channel) : Port → Operation
  | .ctrl => readControlOp c
  | .data => readDataOp c

/-- A bus write of the location `(c, p)` (R80). -/
def busWrite (c : Channel) (v : Byte) : Port → Operation
  | .ctrl => writeControlOp c v
  | .data => writeDataOp c v

/-- The prefix byte that points at register `n`: the null command for 0 to 7, point high for 8 to 15 (table after
R116). -/
def pointerByte (n : RegNum) : Byte := BitVec.ofNat 8 n.val

/-- `wreg ch, n, v` (R123), which assumes the pointer at 0: the write of write register `n`. -/
def wreg (c : Channel) (n : RegNum) (v : Byte) : List Operation :=
  if n = 0 then [writeControlOp c v] else [writeControlOp c (pointerByte n), writeControlOp c v]

/-- `rreg ch, n` (R123), which assumes the pointer at 0: the read of read register `n`. -/
def rreg (c : Channel) (n : RegNum) : List Operation :=
  if n = 0 then [readControlOp c] else [writeControlOp c (pointerByte n), readControlOp c]

/-- `cmd ch, k` (R123): command `k` with pointer 0. -/
def cmdOp (c : Channel) (k : BitVec 3) : List Operation := [writeControlOp c (commandByte 0 k 0)]

end Sys2Proof
end

