-- ==== Sys2Proof/Machine/Defaults.lean ====
section
/-! DEFINITION. Machine/Defaults.lean: the default of every parameter: the eight `decode` functions (P17, R233 to R240),
`vector_encode` (P20, R203), and the reference configuration CFG_REF (R5). The positions and layouts here are what the
spec marks as general knowledge of the chip family (PRESUMED, log entries 2 to 5). -/

namespace Sys2Proof

/-- `clock_mode_multiplier(w4)`, default (R233): from `w4[7:6]`. -/
def defaultClockModeMultiplier (w4 : Byte) : ClockMultiplier :=
  match (w4.extractLsb' 6 2).toNat with
  | 0 => .x1
  | 1 => .x16
  | 2 => .x32
  | _ => .x64

/-- `sync_mode(w4)`, default (R234): `w4[3:2] = 0`. -/
def defaultSyncMode (w4 : Byte) : Bool := w4.extractLsb' 2 2 == 0#2

/-- `stop_bits_x2_of(w4)`, default (R235): from `w4[3:2]`. -/
def defaultStopBitsX2Of (w4 : Byte) : StopBits :=
  match (w4.extractLsb' 2 2).toNat with
  | 0 => .zero
  | 1 => .one
  | 2 => .oneAndHalf
  | _ => .two

/-- `parity_of(w4)`, default (R236): `w4[0]` enables, `w4[1]` makes it even. -/
def defaultParityOf (w4 : Byte) : Parity :=
  if w4.getLsbD 0 then (if w4.getLsbD 1 then .even else .odd) else .none

/-- `bits_per_char_of(w3, w5)`, default (R237): from `w5[6:5]`; `w3` is not read. -/
def defaultBitsPerCharOf (_w3 w5 : Byte) : Nat :=
  match (w5.extractLsb' 5 2).toNat with
  | 0 => 5
  | 1 => 7
  | 2 => 6
  | _ => 8

/-- `brg_enabled(w14)`, default (R238): `w14[0]`. -/
def defaultBrgEnabled (w14 : Byte) : Bool := w14.getLsbD 0

/-- `brg_source(w14)`, default (R239): `w14[1]`, 1 for PCLK and 0 for RTXC. -/
def defaultBrgSource (w14 : Byte) : ClockSource := if w14.getLsbD 1 then .pclk else .rtxc

/-- `time_constant(w12, w13)`, default (R240): `w12 + 256 * w13`. -/
def defaultTimeConstant (w12 w13 : Byte) : BitVec 16 := w13 ++ w12

/-- The status code of the highest pending source (R203): bit 5 of the sticky register highest, bit 0 lowest. -/
def statusCode (p : Byte) : BitVec 3 :=
  if p.getLsbD 5 then 6#3
  else if p.getLsbD 4 then 4#3
  else if p.getLsbD 3 then 5#3
  else if p.getLsbD 2 then 2#3
  else if p.getLsbD 1 then 0#3
  else if p.getLsbD 0 then 1#3
  else 3#3

/-- Three bits in the opposite order (R203: "bit order reversed"). -/
def reverse3 (s : BitVec 3) : BitVec 3 := s.extractLsb' 0 1 ++ s.extractLsb' 1 1 ++ s.extractLsb' 2 1

/-- `vector_encode(w2, w9, p, c)`, default (R203): WR2 unchanged through channel A; through channel B the status in bits
3 to 1, or reversed in bits 6 to 4 when `w9[4]` is set. -/
def defaultVectorEncode (w2 w9 p : Byte) (c : Channel) : Byte :=
  match c with
  | .A => w2
  | .B =>
    if w9.getLsbD 4 then (w2 &&& 0x8F#8) ||| ((reverse3 (statusCode p)).setWidth 8 <<< 4)
    else (w2 &&& 0xF1#8) ||| ((statusCode p).setWidth 8 <<< 1)

/-- P17 with every function at its default. -/
def DecodeChoice.allDefault : DecodeChoice where
  clockModeMultiplier := .default
  syncMode := .default
  stopBitsX2Of := .default
  parityOf := .default
  bitsPerCharOf := .default
  brgEnabled := .default
  brgSource := .default
  timeConstant := .default

/-- CFG_REF (R5): every default, with `pclk` 3686400, `rtxc` 1843200 on both channels and `RING_CAP` 256. -/
def Cfg.ref : Cfg where
  pclk := 3686400
  rtxc := ⟨1843200, 1843200⟩
  ringCap := 256
  multiR := ⟨1, 1⟩
  multiW := ⟨1, 1⟩
  latchFullPolicy := .hold
  rxOverrunReport := false
  txEmptySentinel := 0x00
  sinks := ⟨true, ⟨true, true⟩, ⟨true, true⟩, ⟨true, true⟩, ⟨true, true⟩⟩
  rr0RxAvail := 0x01
  rr0TxEmpty := 0x04
  rr0Dcd := 0x08
  rr0Cts := 0x20
  rr0Underrun := 0x40
  rr1AllSent := 0x01
  rr1Overrun := 0x20
  decode := DecodeChoice.allDefault
  formatRegs := [4, 5, 12, 13, 14]
  mirrorRR := [12, 13, 15]
  vectorEncode := .default
  extActiveSetsBit := true
  underrunExtInt := true
  sharedWrMirror := false
  parityCode := ⟨0, 1, 2⟩
  packetMode := false

end Sys2Proof
end

