-- ==== Sys2Proof/Machine/State.lean ====
section
/-! DEFINITION. Machine/State.lean: every piece of state of 10_state.md as plain data, the reasons a step can stop, the
state after reset (R350, R351) and the created state (R61). -/

namespace Sys2Proof.Machine

/-- A call of the block to one of its sinks (R9). -/
inductive Event where
  /-- `on_irq_change(level)` (R294). -/
  | irq (level : Bool)
  /-- `on_input_available(flag)` of channel `c` (R295). -/
  | inputAvailable (c : Channel) (flag : Bool)
  /-- `on_output_byte(v)` of channel `c` (R296). -/
  | outputByte (c : Channel) (v : Byte)
  /-- `on_rts(flag)` of channel `c` (R283, R296). -/
  | rts (c : Channel) (flag : Bool)
  /-- `on_params_changed(bps, parity, bits_per_char, stop_bits_x2)` of channel `c`, the parity as its number (R297). -/
  | paramsChanged (c : Channel) (bps parityNumber bitsPerChar stopBitsX2 : Nat)
deriving DecidableEq, Repr

/-- The value a reading operation returns (R110): a byte or a boolean. -/
inductive Value where
  | byte (v : Byte)
  | bool (b : Bool)
deriving DecidableEq, Repr

/-- Whether the chip has only been created or has been reset at least once (R61, R352). -/
inductive Lifecycle where
  | created
  | running
deriving DecidableEq, Repr

/-- The state of one channel (10_state.md sections 2 and 3). The transmit latch is `writeRegs[8]` and the receive latch
`readRegs[8]` (R48). -/
structure ChannelState where
  /-- WR0 to WR15 (R24). -/
  writeRegs : Vector Byte 16
  /-- The stored read registers RRs[0] to RRs[15] (R25). -/
  readRegs : Vector Byte 16
  /-- The receive ring buffer, head first (R47, R92). -/
  rxBuffer : List Byte
  /-- The transmit ring buffer, head first (R47, R92). -/
  txBuffer : List Byte
  /-- The receive latch holds no byte that counts (R48). -/
  rxdEmpty : Bool
  /-- The transmit latch holds no byte that counts (R48). -/
  txdEmpty : Bool
  /-- Length of one character time, in clock units (R49). -/
  charClockDivisor : Nat
  /-- Clock units left until the next character tick (R49). -/
  charClockCounter : Nat
  /-- Receive transfers left before the next tick (R50). -/
  readQuota : Nat
  /-- Transmit transfers left before the next tick (R50). -/
  writeQuota : Nat
  /-- Which bits of RR0 are read from the snapshot (R51). -/
  statusLatchMask : Byte
  /-- The external-status snapshot (R51). -/
  statusLatchValue : Byte
  /-- `interrupt_armed_on_next_rx` (R52). -/
  armed : Bool
  /-- Cached bits per second (R53). -/
  bps : Nat
  /-- Cached parity (R53). -/
  parity : Parity
  /-- Cached bits per character (R53). -/
  bitsPerChar : Nat
  /-- Cached twice the stop bits (R53). -/
  stopBitsX2 : Nat
deriving DecidableEq, Repr

/-- The state of the block (R20), its wiring (R5, R54), and the model's own view of the interface: the operations the
environment has applied and the block has not run (`inbox`), and what the operation last run gave back (`events`,
`result`; R4). -/
structure State where
  /-- The parameters P1 to P24; no operation writes them (R350). -/
  cfg : Cfg
  /-- The register pointer, one for the chip (R21). -/
  controlIndex : BitVec 4
  /-- The shared sticky interrupt-pending register (R22). -/
  rr3 : Byte
  /-- The last signaled interrupt level (R23). -/
  irqLine : Bool
  /-- Channel A. -/
  chanA : ChannelState
  /-- Channel B. -/
  chanB : ChannelState
  /-- Created, or reset at least once (R61, R352). -/
  lifecycle : Lifecycle
  /-- The model's own: operations not run yet, the next one first. -/
  inbox : List Operation
  /-- The model's own: the events of the operation last run, in order (R4, R9). -/
  events : List Event
  /-- The model's own: the value the operation last run returned (R4). -/
  result : Option Value
deriving DecidableEq, Repr

/-- No operation faults: "There is no user-facing error channel" (R320). The type has no constructor, so nobody raises
one: safe, because the spec makes every operation total. -/
inductive Fault where
deriving DecidableEq, Repr

/-- Why the step gives no next state. -/
inductive Refusal where
  /-- Raised by a refused arm of `exec`, for an instruction that has no meaning yet: safe. No arm does. -/
  | notModelled (mnemonic : String)
  /-- Raised by the step when the head of the inbox is no operation of R111: safe, the spec gives such a triple no
  meaning. -/
  | malformedOperation (why : DecodeError)
  /-- Raised by the step for an operation other than `reset` on a created chip: "outside the contract and the model
  refuses it" (R352): safe. -/
  | beforeFirstReset
  /-- Raised by the step when the configuration asks for the packet framing, which "a model must refuse" (R3): safe. -/
  | packetFraming
  /-- Raised by the step when the configuration breaks a constraint "a `Cfg` must meet" (R5): safe. -/
  | illFormedConfiguration
deriving DecidableEq, Repr

/-- A channel right after reset (R351), under a `decode` whose generator reads as off in a zero WR14. -/
def ChannelState.afterReset (cfg : Cfg) : ChannelState where
  writeRegs := Vector.replicate 16 0#8
  readRegs := (Vector.replicate 16 0#8).set 1 cfg.rr1AllSent
  rxBuffer := []
  txBuffer := []
  rxdEmpty := true
  txdEmpty := true
  charClockDivisor := 16384
  charClockCounter := 16384
  readQuota := 0
  writeQuota := 0
  statusLatchMask := 0#8
  statusLatchValue := 0#8
  armed := false
  bps := 0
  parity := .none
  bitsPerChar := 5
  stopBitsX2 := 0

/-- A channel right after creation: every number 0, every boolean false, every buffer empty (R61). -/
def ChannelState.created : ChannelState where
  writeRegs := Vector.replicate 16 0#8
  readRegs := Vector.replicate 16 0#8
  rxBuffer := []
  txBuffer := []
  rxdEmpty := false
  txdEmpty := false
  charClockDivisor := 0
  charClockCounter := 0
  readQuota := 0
  writeQuota := 0
  statusLatchMask := 0#8
  statusLatchValue := 0#8
  armed := false
  bps := 0
  parity := .none
  bitsPerChar := 0
  stopBitsX2 := 0

/-- The machine right after reset (R62, R351), under CFG_REF (log entry 1), the events of the reset taken away (log
entry 9). -/
def State.reset : State where
  cfg := Cfg.ref
  controlIndex := 0#4
  rr3 := 0#8
  irqLine := false
  chanA := ChannelState.afterReset Cfg.ref
  chanB := ChannelState.afterReset Cfg.ref
  lifecycle := .running
  inbox := []
  events := []
  result := none

/-- The machine right after creation, before its first reset, with the configuration bound at construction (R61, R352). -/
def State.created (cfg : Cfg) : State where
  cfg := cfg
  controlIndex := 0#4
  rr3 := 0#8
  irqLine := false
  chanA := ChannelState.created
  chanB := ChannelState.created
  lifecycle := .created
  inbox := []
  events := []
  result := none

end Sys2Proof.Machine
end

