-- ==== Sys2Proof/Machine/Operands.lean ====
section
/-! DEFINITION. Machine/Operands.lean: reading and writing the registers of a channel, the register pointer a command
byte sets (R114), and the format fields read through the chosen `decode` functions (P17, R233 to R240). -/

namespace Sys2Proof.Machine

/-! ### Registers (R8, R24, R25) -/

/-- `WR[c][i]` of this channel. -/
def ChannelState.wr (ch : ChannelState) (i : RegNum) : Byte := ch.writeRegs.get i

/-- `WR[c][i] <- v`. -/
def ChannelState.setWr (ch : ChannelState) (i : RegNum) (v : Byte) : ChannelState :=
  { ch with writeRegs := ch.writeRegs.set i.val v i.isLt }

/-- `RRs[c][i]` of this channel. -/
def ChannelState.rrs (ch : ChannelState) (i : RegNum) : Byte := ch.readRegs.get i

/-- `RRs[c][i] <- v`. -/
def ChannelState.setRrs (ch : ChannelState) (i : RegNum) (v : Byte) : ChannelState :=
  { ch with readRegs := ch.readRegs.set i.val v i.isLt }

/-- `tx_latch[c]`, the same byte as `WR[c][8]` (R48). -/
def ChannelState.txLatch (ch : ChannelState) : Byte := ch.wr 8

/-- `rx_latch[c]`, the same byte as `RRs[c][8]` (R48). -/
def ChannelState.rxLatch (ch : ChannelState) : Byte := ch.rrs 8

/-- The channel record of `c`. -/
def State.chan (s : State) : Channel → ChannelState
  | .A => s.chanA
  | .B => s.chanB

/-- The state with the channel record of `c` replaced. -/
def State.setChan (s : State) (c : Channel) (ch : ChannelState) : State :=
  match c with
  | .A => { s with chanA := ch }
  | .B => { s with chanB := ch }

/-- The state with the channel record of `c` changed by `f`. -/
def State.updChan (s : State) (c : Channel) (f : ChannelState → ChannelState) : State :=
  s.setChan c (f (s.chan c))

/-! ### The register pointer (R114) -/

/-- The pointer a register-0 byte leaves: `v[2:0]`, plus 8 if the command is point high (R114). -/
def pointerAfter (cmd ptr : BitVec 3) : BitVec 4 :=
  ptr.setWidth 4 + (if cmd = 1#3 then 8#4 else 0#4)

/-! ### Fields of the write registers (R27, R29, R31, R34) -/

/-- WR1 bit 0: external/status interrupt enable. -/
def ChannelState.extIntEnable (ch : ChannelState) : Bool := (ch.wr 1).getLsbD 0

/-- WR1 bit 1: transmit interrupt enable. -/
def ChannelState.txIntEnable (ch : ChannelState) : Bool := (ch.wr 1).getLsbD 1

/-- WR1 bits 4 to 3: receive interrupt mode. -/
def ChannelState.rxIntMode (ch : ChannelState) : BitVec 2 := (ch.wr 1).extractLsb' 3 2

/-- WR3 bit 0: receiver enable. -/
def ChannelState.rxEnable (ch : ChannelState) : Bool := (ch.wr 3).getLsbD 0

/-- Bit 3 of `WR[A][9]`: the master interrupt enable. -/
def State.mie (s : State) : Bool := (s.chanA.wr 9).getLsbD 3

/-! ### The format fields (P17, R233 to R240) and the vector (P20, R203) -/

/-- `clock_mode_multiplier(w4)` of the configuration. -/
def clockModeMultiplier (cfg : Cfg) (w4 : Byte) : ClockMultiplier :=
  match cfg.decode.clockModeMultiplier with
  | .default => defaultClockModeMultiplier w4
  | .free k => Config.freeClockModeMultiplier k w4

/-- `sync_mode(w4)` of the configuration. -/
def syncMode (cfg : Cfg) (w4 : Byte) : Bool :=
  match cfg.decode.syncMode with
  | .default => defaultSyncMode w4
  | .free k => Config.freeSyncMode k w4

/-- `stop_bits_x2_of(w4)` of the configuration. -/
def stopBitsX2Of (cfg : Cfg) (w4 : Byte) : Nat :=
  match cfg.decode.stopBitsX2Of with
  | .default => (defaultStopBitsX2Of w4).x2
  | .free k => (Config.freeStopBitsX2Of k w4).x2

/-- `parity_of(w4)` of the configuration. -/
def parityOf (cfg : Cfg) (w4 : Byte) : Parity :=
  match cfg.decode.parityOf with
  | .default => defaultParityOf w4
  | .free k => Config.freeParityOf k w4

/-- `bits_per_char_of(w3, w5)` of the configuration. -/
def bitsPerCharOf (cfg : Cfg) (w3 w5 : Byte) : Nat :=
  match cfg.decode.bitsPerCharOf with
  | .default => defaultBitsPerCharOf w3 w5
  | .free k readsWr3 readsWr5 =>
    Config.freeBitsPerCharOf k (if readsWr3 then w3 else 0#8) (if readsWr5 then w5 else 0#8)

/-- `brg_enabled(w14)` of the configuration. -/
def brgEnabled (cfg : Cfg) (w14 : Byte) : Bool :=
  match cfg.decode.brgEnabled with
  | .default => defaultBrgEnabled w14
  | .free k => Config.freeBrgEnabled k w14

/-- `brg_source(w14)` of the configuration. -/
def brgSource (cfg : Cfg) (w14 : Byte) : ClockSource :=
  match cfg.decode.brgSource with
  | .default => defaultBrgSource w14
  | .free k => Config.freeBrgSource k w14

/-- `time_constant(w12, w13)` of the configuration. -/
def timeConstant (cfg : Cfg) (w12 w13 : Byte) : Nat :=
  match cfg.decode.timeConstant with
  | .default => (defaultTimeConstant w12 w13).toNat
  | .free k => (Config.freeTimeConstant k w12 w13).toNat

/-- `vector_encode(w2, w9, rr3, c)` of the configuration. -/
def vectorEncode (cfg : Cfg) (w2 w9 p : Byte) (c : Channel) : Byte :=
  match cfg.vectorEncode with
  | .default => defaultVectorEncode w2 w9 p c
  | .free k => Config.freeVectorEncode k w2 w9 p c

/-- The clock the generator of channel `c` counts: `pclk`, or `rtxc[c]` (R239). -/
def clockRate (cfg : Cfg) (c : Channel) (w14 : Byte) : Nat :=
  match brgSource cfg w14 with
  | .pclk => cfg.pclk
  | .rtxc => cfg.rtxc.get c

end Sys2Proof.Machine
end

