-- ==== Sys2Proof/Machine/Flags.lean ====
section
/-! DEFINITION. Machine/Flags.lean: every status value the block computes: the sticky-bit table (R22), the IRQ level
(R308), the synthesized RR0 (R201), and the values that the divisor formula gives (R241). -/

namespace Sys2Proof.Machine

/-- A condition class (R10). The special condition shares the receive bit and never fires (R300, R305). -/
inductive Cond where
  | ext
  | tx
  | rx
deriving DecidableEq, Repr

/-- A condition mask: a subset of the three classes (R10). -/
structure CondMask where
  ext : Bool := false
  tx : Bool := false
  rx : Bool := false
deriving DecidableEq, Repr

/-- `EXT_MASK`, the set of external-status bits (R5). -/
def extMask (cfg : Cfg) : Byte := cfg.rr0Dcd ||| cfg.rr0Cts ||| cfg.rr0Underrun

/-- `sticky(c, k)`, the table of R22. -/
def sticky : Channel → Cond → Byte
  | .A, .ext => 0x08#8
  | .A, .tx => 0x10#8
  | .A, .rx => 0x20#8
  | .B, .ext => 0x01#8
  | .B, .tx => 0x02#8
  | .B, .rx => 0x04#8

/-- The sticky bits of the classes of a mask. -/
def stickyMask (c : Channel) (m : CondMask) : Byte :=
  (if m.ext then sticky c .ext else 0#8) ||| (if m.tx then sticky c .tx else 0#8) ||| (if m.rx then sticky c .rx else 0#8)

/-- The level of the IRQ line: master enable and some sticky bit set (R308). -/
def irqLevel (s : State) : Bool := s.mie && s.rr3 != 0#8

/-- RR0 as a read gives it (R201): the external-status byte with the latched bits taken from the snapshot, and the two
emptiness flags. -/
def rr0Value (cfg : Cfg) (ch : ChannelState) : Byte :=
  ((ch.rrs 0 &&& ~~~ch.statusLatchMask) ||| (ch.statusLatchValue &&& ch.statusLatchMask))
    ||| (if ch.rxdEmpty then 0#8 else cfg.rr0RxAvail)
    ||| (if ch.txdEmpty then cfg.rr0TxEmpty else 0#8)

/-- `full(q)` (R92): the queue holds `RING_CAP - 1` bytes. -/
def ringFull (cfg : Cfg) (q : List Byte) : Bool := q.length == cfg.ringCap - 1

/-! ### The divisor formula (R241) -/

/-- `mult`: the clock multiplier, forced to 1 in synchronous mode. -/
def formatMult (cfg : Cfg) (ch : ChannelState) : Nat :=
  if syncMode cfg (ch.wr 4) then 1 else (clockModeMultiplier cfg (ch.wr 4)).toNat

/-- `divisor_raw`: clock units in one bit time. -/
def divisorRaw (cfg : Cfg) (ch : ChannelState) : Nat :=
  2 * formatMult cfg ch * (timeConstant cfg (ch.wr 12) (ch.wr 13) + 2)

/-- `d`: clock units in one character, 16384 with the generator off. -/
def newDivisor (cfg : Cfg) (ch : ChannelState) : Nat :=
  if brgEnabled cfg (ch.wr 14) then
    ((2 * bitsPerCharOf cfg (ch.wr 3) (ch.wr 5) + stopBitsX2Of cfg (ch.wr 4) + 2) * divisorRaw cfg ch) / 2
      + (if parityOf cfg (ch.wr 4) = .none then 0 else divisorRaw cfg ch)
  else 16384

/-- `new_bps`: the clock divided by the bit time, rounded down; 0 with the generator off. -/
def newBps (cfg : Cfg) (c : Channel) (ch : ChannelState) : Nat :=
  if brgEnabled cfg (ch.wr 14) then clockRate cfg c (ch.wr 14) / divisorRaw cfg ch else 0

end Sys2Proof.Machine
end

