-- ==== Sys2Proof/Machine/Ops.lean ====
section
/-! DEFINITION. Machine/Ops.lean: the sub-operations shared by the instructions (R10), in the order of the rules that
define them: events (R9), the interrupt condition engine (R300 to R308), which is what the block has for taking an
exception and returning from one (R11, R311, R312), the timing engine (R231, R241), the data path (R251 to R256), the
line signals (R280, R283) and reset (R350). Each is a total function, because no operation faults (R320). -/

namespace Sys2Proof.Machine

/-! ### Events (R9) -/

/-- Whether the sink of an event is bound (P9). -/
def sinkPresent (cfg : Cfg) : Event → Bool
  | .irq _ => cfg.sinks.irq
  | .inputAvailable c _ => cfg.sinks.inputAvailable.get c
  | .outputByte c _ => cfg.sinks.outputByte.get c
  | .rts c _ => cfg.sinks.rts.get c
  | .paramsChanged c _ _ _ _ => cfg.sinks.paramsChanged.get c

/-- `emit e` (R9): the event is appended to the operation's list, or not delivered if its sink is absent. -/
def emit (e : Event) (s : State) : State :=
  if sinkPresent s.cfg e then { s with events := s.events ++ [e] } else s

/-! ### The interrupt condition engine (R300 to R308) -/

/-- `recompute_irq()` (R308): the sink is told only when the level changes. -/
def recomputeIrq (s : State) : State :=
  if irqLevel s = s.irqLine then s else emit (.irq (irqLevel s)) { s with irqLine := irqLevel s }

/-- `capture_status_latch(c)` (R302). -/
def captureStatusLatch (c : Channel) (s : State) : State :=
  s.updChan c fun ch =>
    { ch with statusLatchMask := ch.wr 15 &&& extMask s.cfg, statusLatchValue := ch.rrs 0 }

/-- The sticky bits a raise of the classes `m` sets on channel `c`: the external/status and transmit bits only if WR1
enables them; the receive mode was the caller's test (R301). -/
def raisedBits (c : Channel) (m : CondMask) (ch : ChannelState) : Byte :=
  stickyMask c ⟨m.ext && ch.extIntEnable, m.tx && ch.txIntEnable, m.rx⟩

/-- `raise_condition(c, m)` (R301). -/
def raiseCondition (c : Channel) (m : CondMask) (s : State) : State :=
  let latched := if m.ext && (s.chan c).extIntEnable then captureStatusLatch c s else s
  recomputeIrq { latched with rr3 := latched.rr3 ||| raisedBits c m (s.chan c) }

/-- `clear_condition(c, m)` (R306). -/
def clearCondition (c : Channel) (m : CondMask) (s : State) : State :=
  let released := if m.ext then s.updChan c fun ch => { ch with statusLatchMask := 0#8 } else s
  recomputeIrq { released with rr3 := released.rr3 &&& ~~~stickyMask c m }

/-- Whether the receive trigger fires (R304): mode 1 if armed, mode 2 with a byte in the latch; modes 0 and 3 never. -/
def rxFires (ch : ChannelState) : Bool :=
  (ch.rxIntMode == 1#2 && ch.armed) || (ch.rxIntMode == 2#2 && !ch.rxdEmpty)

/-- `rx_trigger(c)` (R304): every byte that reaches the latch disarms, whether or not the trigger fires. -/
def rxTrigger (c : Channel) (s : State) : State :=
  let disarmed := s.updChan c fun ch => { ch with armed := false }
  if rxFires (s.chan c) then raiseCondition c { rx := true } disarmed else disarmed

/-! ### Timing (R241) -/

/-- `recompute_timing(c)` (R241): the divisor and the counter from the registers; the cached parameters, and the sink,
only when one of the four changed. -/
def recomputeTiming (c : Channel) (s : State) : State :=
  let ch := s.chan c
  let d := newDivisor s.cfg ch
  let b := newBps s.cfg c ch
  let p := parityOf s.cfg (ch.wr 4)
  let bits := bitsPerCharOf s.cfg (ch.wr 3) (ch.wr 5)
  let sb2 := stopBitsX2Of s.cfg (ch.wr 4)
  let timed := s.setChan c { ch with charClockDivisor := d, charClockCounter := d }
  if (b, p, bits, sb2) = (ch.bps, ch.parity, ch.bitsPerChar, ch.stopBitsX2) then timed
  else
    emit (.paramsChanged c b (s.cfg.parityCode.of p) bits sb2)
      (timed.updChan c fun ch => { ch with bps := b, parity := p, bitsPerChar := bits, stopBitsX2 := sb2 })

/-- What every write of register `i` does last, if `FORMAT_REGS` holds it: the timing is recomputed (R91, R241, R365,
P18; that it comes last: R175, and log entry 14 for the registers whose rule does not say). -/
def ifFormat (c : Channel) (i : RegNum) (s : State) : State :=
  if s.cfg.formatRegs.contains i then recomputeTiming c s else s

/-! ### Data path (R251 to R256) -/

/-- `latch_full_policy(c)` (R252), `v` the byte at the head of the receive buffer and `rest` those behind it. -/
def latchFullPolicy (c : Channel) (v : Byte) (rest : List Byte) (s : State) : State :=
  match s.cfg.latchFullPolicy with
  | .hold => s
  | .drop => s.updChan c fun ch => { ch with rxBuffer := rest, readQuota := ch.readQuota - 1 }
  | .overwrite =>
    s.updChan c fun ch => { ch.setRrs 8 v with rxBuffer := rest, readQuota := ch.readQuota - 1 }

/-- `check_receive(c)` (R251). -/
def checkReceive (c : Channel) (s : State) : State :=
  match (s.chan c).rxBuffer with
  | [] => s
  | v :: rest =>
    if (s.chan c).readQuota = 0 then s
    else if (s.chan c).rxEnable = false then s
    else if (s.chan c).rxdEmpty = false then latchFullPolicy c v rest s
    else
      rxTrigger c <| emit (.inputAvailable c true) <| s.updChan c fun ch =>
        { ch.setRrs 8 v with rxBuffer := rest, rxdEmpty := false, readQuota := ch.readQuota - 1 }

/-- `note_underrun(c)` (R254). -/
def noteUnderrun (c : Channel) (s : State) : State :=
  if (s.chan c).rrs 0 &&& s.cfg.rr0Underrun = 0#8 then
    let noted := s.updChan c fun ch => ch.setRrs 0 (ch.rrs 0 ||| s.cfg.rr0Underrun)
    if s.cfg.underrunExtInt && (s.chan c).wr 15 &&& s.cfg.rr0Underrun != 0#8 then
      raiseCondition c { ext := true } noted
    else noted
  else s

/-- `check_transmit(c)` (R253). -/
def checkTransmit (c : Channel) (s : State) : State :=
  if (s.chan c).writeQuota = 0 then s
  else if ringFull s.cfg (s.chan c).txBuffer then s
  else if (s.chan c).txdEmpty then noteUnderrun c s
  else
    raiseCondition c { tx := true } <| emit (.outputByte c (s.chan c).txLatch) <| s.updChan c fun ch =>
      { ch with txBuffer := ch.txBuffer ++ [ch.txLatch], txdEmpty := true, writeQuota := ch.writeQuota - 1 }

/-- `write_data(c, v)` (R255), which is a write of WR8 (R48, R250). -/
def writeData (c : Channel) (v : Byte) (s : State) : State :=
  ifFormat c 8 <| checkTransmit c <| clearCondition c { tx := true } <| s.updChan c fun ch =>
    { ch.setWr 8 v with txdEmpty := false }

/-- `read_data(c)` (R256), the state after it; the byte it returns is the receive latch before it. -/
def readData (c : Channel) (s : State) : State :=
  checkReceive c <| clearCondition c { rx := true } <| s.updChan c fun ch => { ch with rxdEmpty := true }

/-- `chn_advance(c, n)` (R231). The remainder is taken by the divisor, which is at least 1 in every state reached from a
reset (R59; log entry 15). -/
def chnAdvance (c : Channel) (n : Nat) (s : State) : State :=
  if n < (s.chan c).charClockCounter then
    s.updChan c fun ch => { ch with charClockCounter := ch.charClockCounter - n }
  else
    checkTransmit c <| checkReceive c <| s.updChan c fun ch =>
      { ch with
        charClockCounter := ch.charClockDivisor - (n - ch.charClockCounter) % ch.charClockDivisor
        readQuota := s.cfg.multiR.get c
        writeQuota := s.cfg.multiW.get c }

/-! ### Line signals (R280, R283) -/

/-- The external-status byte after a line moved (R280, P21). -/
def lineByte (cfg : Cfg) (bit old : Byte) (active : Bool) : Byte :=
  if active = cfg.extActiveSetsBit then old ||| bit else old &&& ~~~bit

/-- `set_external_status(c, bit, active)` (R280). -/
def setExternalStatus (c : Channel) (bit : Byte) (active : Bool) (s : State) : State :=
  let old := (s.chan c).rrs 0
  let new := lineByte s.cfg bit old active
  let moved := s.updChan c fun ch => ch.setRrs 0 new
  if (old ^^^ new) &&& (s.chan c).wr 15 = 0#8 then moved else raiseCondition c { ext := true } moved

/-- `set_rts(c, flag)` (R283). -/
def setRts (c : Channel) (flag : Bool) (s : State) : State := emit (.rts c flag) s

/-! ### The control port (R140, R141, R170, R186) -/

/-- The part of R140 that every register-0 write shares: the byte is stored in `WR[c][0]` and the pointer set. -/
def storeCommand (c : Channel) (rsv : BitVec 2) (cmd ptr : BitVec 3) (s : State) : State :=
  { s.updChan c (fun ch => ch.setWr 0 (commandByte rsv cmd ptr)) with controlIndex := pointerAfter cmd ptr }

/-- The pointer is consumed (R140, R141). -/
def consumePointer (s : State) : State := { s with controlIndex := 0#4 }

/-- The store of a register write (R170), the pointer consumed (R140). -/
def storeReg (c : Channel) (i : RegNum) (v : Byte) (s : State) : State :=
  (consumePointer s).updChan c fun ch => ch.setWr i v

/-- The store of a register that may be mirrored between the channels (R186, P23). -/
def storeShared (c : Channel) (i : RegNum) (v : Byte) (s : State) : State :=
  if s.cfg.sharedWrMirror then storeReg .B i v (storeReg .A i v s) else storeReg c i v s

/-- The end of a control-port read: the pointer is consumed and the byte returned (R141). -/
def returnByte (v : Byte) (s : State) : State := { s with result := some (.byte v) }

/-- The byte a read of a register without a synthesized value gives (R45, R46; the note after R216): the write register
of the same number if `MIRROR_RR` holds it, else the stored byte. -/
def storedValue (cfg : Cfg) (ch : ChannelState) (i : RegNum) : Byte :=
  if cfg.mirrorRR.contains i then ch.wr i else ch.rrs i

/-- A control-port read of a register without side effects, whose value is `v` (R141, R200). -/
def readPlain (v : Byte) (s : State) : State := returnByte v (consumePointer s)

/-! ### Reset (R350) -/

/-- The first loop of R350 on one channel. The divisor, the counter and the cached parameters are what
`recompute_timing` then works on. -/
def resetChannel (cfg : Cfg) (ch : ChannelState) : ChannelState :=
  { ch with
    writeRegs := Vector.replicate 16 0#8
    readRegs := (Vector.replicate 16 0#8).set 1 cfg.rr1AllSent
    rxBuffer := []
    txBuffer := []
    rxdEmpty := true
    txdEmpty := true
    statusLatchMask := 0#8
    statusLatchValue := 0#8
    armed := false
    readQuota := 0
    writeQuota := 0 }

/-- The registers, buffers, latches, flags and quotas cleared, before the timing is recomputed (R350). -/
def clearChip (s : State) : State :=
  { s with
    controlIndex := 0#4
    rr3 := 0#8
    chanA := resetChannel s.cfg s.chanA
    chanB := resetChannel s.cfg s.chanB
    lifecycle := .running }

/-- `reset()` (R350): RTS and IRQ are reported whether or not their level changes. -/
def resetChip (s : State) : State :=
  let timed := recomputeTiming .B (recomputeTiming .A (clearChip s))
  emit (.irq false) { setRts .B false (setRts .A false timed) with irqLine := false }

/-! ### Taking the next operation -/

/-- Whether the chip takes the instruction: any on a running chip, only `reset` on a created one (R61, R352). -/
def accepts (s : State) (i : Instr) : Bool :=
  decide (s.lifecycle = .running ∨ i = .rst)

/-- The state in which an operation is run: it is off the inbox and nothing has been emitted or returned yet (R4). -/
def beginOp (rest : List Operation) (s : State) : State :=
  { s with inbox := rest, events := [], result := none }

end Sys2Proof.Machine
end

