-- ==== Sys2Proof/Machine/Commands.lean ====
section
/-! DEFINITION. Machine/Commands.lean: the eight register-0 writes, one per command (R140, R144 to R151). Each stores the
byte and sets the pointer, then carries out its command on the channel of the write (R116); as a write of register 0 it
recomputes the timing if `FORMAT_REGS` holds 0, which the default set does not (R241, P18). -/

namespace Sys2Proof.Machine

/-- Command 0, null (R144): nothing beyond the store of the byte and the pointer (R140). -/
def execWc0Null (c : Channel) (rsv : BitVec 2) (ptr : BitVec 3) (s : State) : Host.Outcome State Fault Refusal :=
  .next (ifFormat c 0 (storeCommand c rsv 0#3 ptr s))

/-- Command 1, point high (R145): nothing beyond the store and the pointer, to which it adds 8 (R114). -/
def execWc0PointHigh (c : Channel) (rsv : BitVec 2) (ptr : BitVec 3) (s : State) : Host.Outcome State Fault Refusal :=
  .next (ifFormat c 0 (storeCommand c rsv 1#3 ptr s))

/-- Command 2, reset external/status interrupt (R146). -/
def execWc0ResetExtStatusInt (c : Channel) (rsv : BitVec 2) (ptr : BitVec 3) (s : State) : Host.Outcome State Fault Refusal :=
  .next (ifFormat c 0 (clearCondition c { ext := true } (storeCommand c rsv 2#3 ptr s)))

/-- Command 3, send abort (R147): no effect of its own. -/
def execWc0SendAbort (c : Channel) (rsv : BitVec 2) (ptr : BitVec 3) (s : State) : Host.Outcome State Fault Refusal :=
  .next (ifFormat c 0 (storeCommand c rsv 3#3 ptr s))

/-- Command 4, enable interrupt on next rx (R148): sets `armed[c]`, whatever the receive mode is. -/
def execWc0EnableIntNextRx (c : Channel) (rsv : BitVec 2) (ptr : BitVec 3) (s : State) : Host.Outcome State Fault Refusal :=
  .next (ifFormat c 0 ((storeCommand c rsv 4#3 ptr s).updChan c fun ch => { ch with armed := true }))

/-- Command 5, reset tx interrupt pending (R149). -/
def execWc0ResetTxIntPending (c : Channel) (rsv : BitVec 2) (ptr : BitVec 3) (s : State) : Host.Outcome State Fault Refusal :=
  .next (ifFormat c 0 (clearCondition c { tx := true } (storeCommand c rsv 5#3 ptr s)))

/-- Command 6, error reset (R150): clears the opt-in overrun bit, and does nothing else. -/
def execWc0ErrorReset (c : Channel) (rsv : BitVec 2) (ptr : BitVec 3) (s : State) : Host.Outcome State Fault Refusal :=
  .next <| ifFormat c 0 <|
    let stored := storeCommand c rsv 6#3 ptr s
    if s.cfg.rxOverrunReport then stored.updChan c fun ch => ch.setRrs 1 (ch.rrs 1 &&& ~~~s.cfg.rr1Overrun)
    else stored

/-- Command 7, reset highest IUS (R151): no effect of its own; there is no interrupt-under-service state. -/
def execWc0ResetHighestIus (c : Channel) (rsv : BitVec 2) (ptr : BitVec 3) (s : State) : Host.Outcome State Fault Refusal :=
  .next (ifFormat c 0 (storeCommand c rsv 7#3 ptr s))


end Sys2Proof.Machine
end

