-- ==== Sys2Proof/Machine/DataPort.lean ====
section
/-! DEFINITION. Machine/DataPort.lean: the data port (R255, R256). -/

namespace Sys2Proof.Machine

/-- `write_data(c, v)` (R255); the pointer is left alone (R118). -/
def execWd (c : Channel) (v : Byte) (s : State) : Host.Outcome State Fault Refusal :=
  .next (writeData c v s)

/-- `read_data(c)` (R256); the pointer is left alone (R118). The byte returned is the latch as it was before the receive
check ran. -/
def execRd (c : Channel) (s : State) : Host.Outcome State Fault Refusal :=
  .next (returnByte (s.chan c).rxLatch (readData c s))


end Sys2Proof.Machine
end

