-- ==== Sys2Proof/Machine/RegisterReads.lean ====
section
/-! DEFINITION. Machine/RegisterReads.lean: the reads of RR0 to RR15 through the control port (R143, R200 to R216). The
pointer is consumed by every one of them (R141). -/

namespace Sys2Proof.Machine

/-- Read of RR0, status (R201). -/
def execRcRR0 (c : Channel) (s : State) : Host.Outcome State Fault Refusal :=
  .next (readPlain (rr0Value s.cfg (s.chan c)) s)

/-- Read of RR1, special receive status (R202): the stored byte. -/
def execRcRR1 (c : Channel) (s : State) : Host.Outcome State Fault Refusal :=
  .next (readPlain ((s.chan c).rrs 1) s)

/-- Read of RR2, the interrupt vector (R203), composed from channel A's WR2 and WR9 and the sticky register. -/
def execRcRR2 (c : Channel) (s : State) : Host.Outcome State Fault Refusal :=
  .next (readPlain (vectorEncode s.cfg (s.chanA.wr 2) (s.chanA.wr 9) s.rr3 c) s)

/-- Read of RR3, interrupt pending (R204): the sticky register through channel A, 0 through channel B. -/
def execRcRR3 (c : Channel) (s : State) : Host.Outcome State Fault Refusal :=
  .next (readPlain (match c with | .A => s.rr3 | .B => 0#8) s)

/-- Read of RR4 (R205): the stored byte (R46). -/
def execRcRR4 (c : Channel) (s : State) : Host.Outcome State Fault Refusal :=
  .next (readPlain (storedValue s.cfg (s.chan c) 4) s)

/-- Read of RR5 (R206): the stored byte (R46). -/
def execRcRR5 (c : Channel) (s : State) : Host.Outcome State Fault Refusal :=
  .next (readPlain (storedValue s.cfg (s.chan c) 5) s)

/-- Read of RR6 (R207): the stored byte (R46). -/
def execRcRR6 (c : Channel) (s : State) : Host.Outcome State Fault Refusal :=
  .next (readPlain (storedValue s.cfg (s.chan c) 6) s)

/-- Read of RR7 (R208): the stored byte (R46). -/
def execRcRR7 (c : Channel) (s : State) : Host.Outcome State Fault Refusal :=
  .next (readPlain (storedValue s.cfg (s.chan c) 7) s)

/-- Read of RR8 through the control port (R209): the data read, the pointer consumed. -/
def execRcRR8 (c : Channel) (s : State) : Host.Outcome State Fault Refusal :=
  .next (returnByte (s.chan c).rxLatch (readData c (consumePointer s)))

/-- Read of RR9 (R210): the stored byte (R46). -/
def execRcRR9 (c : Channel) (s : State) : Host.Outcome State Fault Refusal :=
  .next (readPlain (storedValue s.cfg (s.chan c) 9) s)

/-- Read of RR10 (R211): the stored byte (R46). -/
def execRcRR10 (c : Channel) (s : State) : Host.Outcome State Fault Refusal :=
  .next (readPlain (storedValue s.cfg (s.chan c) 10) s)

/-- Read of RR11 (R212): the stored byte (R46). -/
def execRcRR11 (c : Channel) (s : State) : Host.Outcome State Fault Refusal :=
  .next (readPlain (storedValue s.cfg (s.chan c) 11) s)

/-- Read of RR12 (R213): WR12, as `MIRROR_RR` holds 12 by default (R45). -/
def execRcRR12 (c : Channel) (s : State) : Host.Outcome State Fault Refusal :=
  .next (readPlain (storedValue s.cfg (s.chan c) 12) s)

/-- Read of RR13 (R214): WR13, as `MIRROR_RR` holds 13 by default (R45). -/
def execRcRR13 (c : Channel) (s : State) : Host.Outcome State Fault Refusal :=
  .next (readPlain (storedValue s.cfg (s.chan c) 13) s)

/-- Read of RR14 (R215): the stored byte (R46). -/
def execRcRR14 (c : Channel) (s : State) : Host.Outcome State Fault Refusal :=
  .next (readPlain (storedValue s.cfg (s.chan c) 14) s)

/-- Read of RR15 (R216): WR15, as `MIRROR_RR` holds 15 by default (R45). -/
def execRcRR15 (c : Channel) (s : State) : Host.Outcome State Fault Refusal :=
  .next (readPlain (storedValue s.cfg (s.chan c) 15) s)


end Sys2Proof.Machine
end

