-- ==== Sys2Proof/Machine/RegisterWrites.lean ====
section
/-! DEFINITION. Machine/RegisterWrites.lean: the writes of WR1 to WR15 through the control port (R142, R170 to R186). The
pointer is consumed by every one of them (R140). -/

namespace Sys2Proof.Machine

/-- Write of WR1, interrupt enables (R171): the store (R170), and nothing else unless `FORMAT_REGS` holds 1 (R241). -/
def execWcWR1 (c : Channel) (v : Byte) (s : State) : Host.Outcome State Fault Refusal :=
  .next (ifFormat c 1 (storeReg c 1 v s))

/-- Write of WR2, vector base (R172), in both banks if the two are mirrored (R186). -/
def execWcWR2 (c : Channel) (v : Byte) (s : State) : Host.Outcome State Fault Refusal :=
  .next (ifFormat c 2 (storeShared c 2 v s))

/-- Write of WR3, receiver control (R173): the store (R170), and nothing else unless `FORMAT_REGS` holds 3 (R241). -/
def execWcWR3 (c : Channel) (v : Byte) (s : State) : Host.Outcome State Fault Refusal :=
  .next (ifFormat c 3 (storeReg c 3 v s))

/-- Write of WR4, clock mode, stop bits, parity (R174): the timing is recomputed. -/
def execWcWR4 (c : Channel) (v : Byte) (s : State) : Host.Outcome State Fault Refusal :=
  .next (recomputeTiming c (storeReg c 4 v s))

/-- Write of WR5, transmitter control (R175): a change of bit 1 is reported as RTS, then the timing is recomputed if
`FORMAT_REGS` holds 5. -/
def execWcWR5 (c : Channel) (v : Byte) (s : State) : Host.Outcome State Fault Refusal :=
  .next <|
    let stored := storeReg c 5 v s
    ifFormat c 5 (if ((s.chan c).wr 5 ^^^ v) &&& 0x02#8 != 0#8 then setRts c (v.getLsbD 1) stored else stored)

/-- Write of WR6, stored only (R176): the store (R170), and nothing else unless `FORMAT_REGS` holds 6 (R241). -/
def execWcWR6 (c : Channel) (v : Byte) (s : State) : Host.Outcome State Fault Refusal :=
  .next (ifFormat c 6 (storeReg c 6 v s))

/-- Write of WR7, stored only (R177): the store (R170), and nothing else unless `FORMAT_REGS` holds 7 (R241). -/
def execWcWR7 (c : Channel) (v : Byte) (s : State) : Host.Outcome State Fault Refusal :=
  .next (ifFormat c 7 (storeReg c 7 v s))

/-- Write of WR8 through the control port (R185): the data write, the pointer consumed. -/
def execWcWR8 (c : Channel) (v : Byte) (s : State) : Host.Outcome State Fault Refusal :=
  .next (writeData c v (consumePointer s))

/-- Write of WR9, master interrupt control (R178), in both banks if the two are mirrored (R186): the IRQ line is
recomputed. -/
def execWcWR9 (c : Channel) (v : Byte) (s : State) : Host.Outcome State Fault Refusal :=
  .next (ifFormat c 9 (recomputeIrq (storeShared c 9 v s)))

/-- Write of WR10, stored only (R179): the store (R170), and nothing else unless `FORMAT_REGS` holds 10 (R241). -/
def execWcWR10 (c : Channel) (v : Byte) (s : State) : Host.Outcome State Fault Refusal :=
  .next (ifFormat c 10 (storeReg c 10 v s))

/-- Write of WR11, stored only (R180): the store (R170), and nothing else unless `FORMAT_REGS` holds 11 (R241). -/
def execWcWR11 (c : Channel) (v : Byte) (s : State) : Host.Outcome State Fault Refusal :=
  .next (ifFormat c 11 (storeReg c 11 v s))

/-- Write of WR12, time constant, low byte by default (R181): the timing is recomputed. -/
def execWcWR12 (c : Channel) (v : Byte) (s : State) : Host.Outcome State Fault Refusal :=
  .next (recomputeTiming c (storeReg c 12 v s))

/-- Write of WR13, time constant, high byte by default (R182): the timing is recomputed. -/
def execWcWR13 (c : Channel) (v : Byte) (s : State) : Host.Outcome State Fault Refusal :=
  .next (recomputeTiming c (storeReg c 13 v s))

/-- Write of WR14, baud-rate generator control (R183): the timing is recomputed. -/
def execWcWR14 (c : Channel) (v : Byte) (s : State) : Host.Outcome State Fault Refusal :=
  .next (recomputeTiming c (storeReg c 14 v s))

/-- Write of WR15, external/status mask (R184): the store (R170), and nothing else unless `FORMAT_REGS` holds 15 (R241). -/
def execWcWR15 (c : Channel) (v : Byte) (s : State) : Host.Outcome State Fault Refusal :=
  .next (ifFormat c 15 (storeReg c 15 v s))


end Sys2Proof.Machine
end

