-- ==== Sys2Proof/Machine/System.lean ====
section
/-! DEFINITION. Machine/System.lean: the clock (R230), the two input lines (R281, R282) and reset (R350). -/

namespace Sys2Proof.Machine

/-- `advance(n)` (R230): channel A, then channel B. -/
def execAdv (n : Nat) (s : State) : Host.Outcome State Fault Refusal :=
  .next (chnAdvance .B n (chnAdvance .A n s))

/-- `set_dcd(c, flag)` (R281). -/
def execDcd (c : Channel) (active : Bool) (s : State) : Host.Outcome State Fault Refusal :=
  .next (setExternalStatus c s.cfg.rr0Dcd active s)

/-- `set_cts(c, flag)` (R282). -/
def execCts (c : Channel) (active : Bool) (s : State) : Host.Outcome State Fault Refusal :=
  .next (setExternalStatus c s.cfg.rr0Cts active s)

/-- `reset` (R350). -/
def execRst (s : State) : Host.Outcome State Fault Refusal :=
  .next (resetChip s)


end Sys2Proof.Machine
end

