-- ==== Sys2Proof/Machine/Transport.lean ====
section
/-! DEFINITION. Machine/Transport.lean: the transport side (R290 to R293). -/

namespace Sys2Proof.Machine

/-- `receive_byte(c, v)` (R290): queued, or dropped silently when the buffer is full, with the opt-in overrun bit. -/
def execRxb (c : Channel) (v : Byte) (s : State) : Host.Outcome State Fault Refusal :=
  .next <|
    if ringFull s.cfg (s.chan c).rxBuffer then
      if s.cfg.rxOverrunReport then s.updChan c fun ch => ch.setRrs 1 (ch.rrs 1 ||| s.cfg.rr1Overrun) else s
    else s.updChan c fun ch => { ch with rxBuffer := ch.rxBuffer ++ [v] }

/-- `send_byte(c)` (R291): the byte at the head of the transmit buffer, or the sentinel when it is empty. -/
def execTxb (c : Channel) (s : State) : Host.Outcome State Fault Refusal :=
  .next <|
    match (s.chan c).txBuffer with
    | [] => returnByte s.cfg.txEmptySentinel s
    | v :: rest => returnByte v (s.updChan c fun ch => { ch with txBuffer := rest })

/-- `input_buffer_full(c)` (R292). -/
def execIbf (c : Channel) (s : State) : Host.Outcome State Fault Refusal :=
  .next { s with result := some (.bool (ringFull s.cfg (s.chan c).rxBuffer)) }

/-- `output_buffer_empty(c)` (R293). -/
def execObe (c : Channel) (s : State) : Host.Outcome State Fault Refusal :=
  .next { s with result := some (.bool (s.chan c).txBuffer.isEmpty) }


end Sys2Proof.Machine
end

