-- ==== Sys2Proof/Machine/Dispatch.lean ====
section
/-! DEFINITION. Machine/Dispatch.lean: one arm per row of the opcode table. -/

namespace Sys2Proof.Machine

def exec (i : Instr) (s : State) : Host.Outcome State Fault Refusal :=
  match i with
  | .wc0Null c rsv ptr => Sys2Proof.Machine.execWc0Null c rsv ptr s
  | .wc0PointHigh c rsv ptr => Sys2Proof.Machine.execWc0PointHigh c rsv ptr s
  | .wc0ResetExtStatusInt c rsv ptr => Sys2Proof.Machine.execWc0ResetExtStatusInt c rsv ptr s
  | .wc0SendAbort c rsv ptr => Sys2Proof.Machine.execWc0SendAbort c rsv ptr s
  | .wc0EnableIntNextRx c rsv ptr => Sys2Proof.Machine.execWc0EnableIntNextRx c rsv ptr s
  | .wc0ResetTxIntPending c rsv ptr => Sys2Proof.Machine.execWc0ResetTxIntPending c rsv ptr s
  | .wc0ErrorReset c rsv ptr => Sys2Proof.Machine.execWc0ErrorReset c rsv ptr s
  | .wc0ResetHighestIus c rsv ptr => Sys2Proof.Machine.execWc0ResetHighestIus c rsv ptr s
  | .wcWR1 c v => Sys2Proof.Machine.execWcWR1 c v s
  | .wcWR2 c v => Sys2Proof.Machine.execWcWR2 c v s
  | .wcWR3 c v => Sys2Proof.Machine.execWcWR3 c v s
  | .wcWR4 c v => Sys2Proof.Machine.execWcWR4 c v s
  | .wcWR5 c v => Sys2Proof.Machine.execWcWR5 c v s
  | .wcWR6 c v => Sys2Proof.Machine.execWcWR6 c v s
  | .wcWR7 c v => Sys2Proof.Machine.execWcWR7 c v s
  | .wcWR8 c v => Sys2Proof.Machine.execWcWR8 c v s
  | .wcWR9 c v => Sys2Proof.Machine.execWcWR9 c v s
  | .wcWR10 c v => Sys2Proof.Machine.execWcWR10 c v s
  | .wcWR11 c v => Sys2Proof.Machine.execWcWR11 c v s
  | .wcWR12 c v => Sys2Proof.Machine.execWcWR12 c v s
  | .wcWR13 c v => Sys2Proof.Machine.execWcWR13 c v s
  | .wcWR14 c v => Sys2Proof.Machine.execWcWR14 c v s
  | .wcWR15 c v => Sys2Proof.Machine.execWcWR15 c v s
  | .rcRR0 c => Sys2Proof.Machine.execRcRR0 c s
  | .rcRR1 c => Sys2Proof.Machine.execRcRR1 c s
  | .rcRR2 c => Sys2Proof.Machine.execRcRR2 c s
  | .rcRR3 c => Sys2Proof.Machine.execRcRR3 c s
  | .rcRR4 c => Sys2Proof.Machine.execRcRR4 c s
  | .rcRR5 c => Sys2Proof.Machine.execRcRR5 c s
  | .rcRR6 c => Sys2Proof.Machine.execRcRR6 c s
  | .rcRR7 c => Sys2Proof.Machine.execRcRR7 c s
  | .rcRR8 c => Sys2Proof.Machine.execRcRR8 c s
  | .rcRR9 c => Sys2Proof.Machine.execRcRR9 c s
  | .rcRR10 c => Sys2Proof.Machine.execRcRR10 c s
  | .rcRR11 c => Sys2Proof.Machine.execRcRR11 c s
  | .rcRR12 c => Sys2Proof.Machine.execRcRR12 c s
  | .rcRR13 c => Sys2Proof.Machine.execRcRR13 c s
  | .rcRR14 c => Sys2Proof.Machine.execRcRR14 c s
  | .rcRR15 c => Sys2Proof.Machine.execRcRR15 c s
  | .wd c v => Sys2Proof.Machine.execWd c v s
  | .rd c => Sys2Proof.Machine.execRd c s
  | .adv n => Sys2Proof.Machine.execAdv n s
  | .dcd c active => Sys2Proof.Machine.execDcd c active s
  | .cts c active => Sys2Proof.Machine.execCts c active s
  | .rxb c v => Sys2Proof.Machine.execRxb c v s
  | .txb c => Sys2Proof.Machine.execTxb c s
  | .ibf c => Sys2Proof.Machine.execIbf c s
  | .obe c => Sys2Proof.Machine.execObe c s
  | .rst => Sys2Proof.Machine.execRst s

end Sys2Proof.Machine
end

