-- ==== Sys2Proof/Machine/Step.lean ====
section
/-! DEFINITION. Machine/Step.lean: one step takes the next operation the environment has applied, decodes it with the
register pointer, and runs it (R4, R110, R121). -/

namespace Sys2Proof.Machine

/-- One operation. With none applied nothing happens, because the block has no activity of its own (R4; log entry 8).
The configurations and operations the spec has a model refuse are refused by name (R3, R5, R111, R352). -/
def step (s : State) : Host.Outcome State Fault Refusal :=
  match s.inbox with
  | [] => .next s
  | op :: rest =>
    if s.cfg.packetMode then .refused .packetFraming
    else if s.cfg.wellFormed = false then .refused .illFormedConfiguration
    else
      match decode s.controlIndex op with
      | .error why => .refused (.malformedOperation why)
      | .ok i => if accepts s i then exec i (beginOp rest s) else .refused .beforeFirstReset

/-- `s` with a table word's operation applied as the next one, on a running chip with the register pointer at 0, as a
register-0 byte needs (log entry 13). -/
def State.withFetchWord (s : State) (nbits w : Nat) : State :=
  { s with controlIndex := 0#4, lifecycle := .running, inbox := tableWordOp nbits w :: s.inbox }

end Sys2Proof.Machine
end

