-- ==== Sys2Proof/Machine/Ring.lean ====
section
/-! DEFINITION. Machine/Ring.lean: the index form of a ring buffer (R93), beside the queue of R92 that State holds. The
machine does not run on it; it is here so that the two forms can be shown to be one. -/

namespace Sys2Proof.Machine

/-- The index form (R93): `RING_CAP` slots and two indices. -/
structure Ring where
  buf : List Byte
  wrIdx : Nat
  rdIdx : Nat
deriving DecidableEq, Repr

/-- The number of slots, `RING_CAP`. -/
def Ring.cap (r : Ring) : Nat := r.buf.length

/-- Both indices are in range and there are at least two slots (R92, R93). -/
def Ring.wf (r : Ring) : Bool := decide (2 ≤ r.cap ∧ r.wrIdx < r.cap ∧ r.rdIdx < r.cap)

/-- `empty` (R93). -/
def Ring.isEmpty (r : Ring) : Bool := r.wrIdx == r.rdIdx

/-- `full` (R93). -/
def Ring.isFull (r : Ring) : Bool := (r.wrIdx + 1) % r.cap == r.rdIdx

/-- `enqueue` (R93). -/
def Ring.enqueue (r : Ring) (v : Byte) : Ring :=
  { r with buf := r.buf.set r.wrIdx v, wrIdx := (r.wrIdx + 1) % r.cap }

/-- The byte `dequeue` returns (R93). -/
def Ring.head (r : Ring) : Byte := r.buf.getD r.rdIdx 0

/-- `dequeue` (R93): the read index moves on. -/
def Ring.dequeue (r : Ring) : Ring := { r with rdIdx := (r.rdIdx + 1) % r.cap }

/-- Clearing a buffer (R93): both indices 0. -/
def Ring.clear (r : Ring) : Ring := { r with wrIdx := 0, rdIdx := 0 }

/-- How many bytes are queued. -/
def Ring.count (r : Ring) : Nat := (r.wrIdx + r.cap - r.rdIdx) % r.cap

/-- The queue the index form stands for (R93): the list from the read index up to the write index, modulo the number of
slots. -/
def Ring.toQueue (r : Ring) : List Byte :=
  (List.range r.count).map fun k => r.buf.getD ((r.rdIdx + k) % r.cap) 0

end Sys2Proof.Machine
end

