-- ==== Sys2Proof/Safety.lean ====
section
/-! DEFINITION. Safety.lean: the words the claims use: the invariants of 10_state.md section 5 (R55 to R59), what it takes
for the step to run an operation, which instructions name a channel or clear a sticky bit, and the effect of the two
recomputations (R308, R241) said as one record update each. -/

namespace Sys2Proof.Machine

/-! ### The invariants (R55 to R59) -/

/-- The invariants of one channel (R25, R58, R59): the buffers within their capacity, the counter between 1 and the
divisor, the quotas within their grants, no bit where none is defined. -/
abbrev ChannelState.Ok (cfg : Cfg) (c : Channel) (ch : ChannelState) : Prop :=
  ch.rxBuffer.length ≤ cfg.ringCap - 1 ∧
  ch.txBuffer.length ≤ cfg.ringCap - 1 ∧
  1 ≤ ch.charClockDivisor ∧
  1 ≤ ch.charClockCounter ∧
  ch.charClockCounter ≤ ch.charClockDivisor ∧
  ch.readQuota ≤ cfg.multiR.get c ∧
  ch.writeQuota ≤ cfg.multiW.get c ∧
  ch.statusLatchMask &&& ~~~extMask cfg = 0#8 ∧
  ch.rrs 0 &&& ~~~extMask cfg = 0#8 ∧
  ch.rrs 1 &&& ~~~(cfg.rr1AllSent ||| cfg.rr1Overrun) = 0#8 ∧
  ∀ i : RegNum, i ≠ 0 → i ≠ 1 → i ≠ 8 → ch.rrs i = 0#8

/-- The invariants of the chip: bits 7 and 6 of the sticky register are 0 (R56), the IRQ level is what the master enable
and the sticky register make it (R57), and both channels meet theirs. R55 is the type of `controlIndex`. -/
abbrev State.Inv (s : State) : Prop :=
  s.rr3 &&& 0xC0#8 = 0#8 ∧ s.irqLine = irqLevel s ∧ s.chanA.Ok s.cfg .A ∧ s.chanB.Ok s.cfg .B

/-- What it takes for the step to run an operation of R111: a chip reset at least once (R352), under a configuration
that meets the constraints of R5 and asks for no packet framing (R3). -/
abbrev State.Ready (s : State) : Prop :=
  s.lifecycle = .running ∧ s.cfg.wellFormed = true ∧ s.cfg.packetMode = false

/-! ### Instructions by channel and by the sticky bit they clear -/

/-- The other channel. -/
def otherChannel : Channel → Channel
  | .A => .B
  | .B => .A

/-- The channel an instruction names; `advance` and `reset` name none (R111). -/
def channelOf : Instr → Option Channel
  | .wc0Null c _ _ | .wc0PointHigh c _ _ | .wc0ResetExtStatusInt c _ _ | .wc0SendAbort c _ _ => some c
  | .wc0EnableIntNextRx c _ _ | .wc0ResetTxIntPending c _ _ | .wc0ErrorReset c _ _ => some c
  | .wc0ResetHighestIus c _ _ => some c
  | .wcWR1 c _ | .wcWR2 c _ | .wcWR3 c _ | .wcWR4 c _ | .wcWR5 c _ | .wcWR6 c _ | .wcWR7 c _ | .wcWR8 c _ => some c
  | .wcWR9 c _ | .wcWR10 c _ | .wcWR11 c _ | .wcWR12 c _ | .wcWR13 c _ | .wcWR14 c _ | .wcWR15 c _ => some c
  | .rcRR0 c | .rcRR1 c | .rcRR2 c | .rcRR3 c | .rcRR4 c | .rcRR5 c | .rcRR6 c | .rcRR7 c => some c
  | .rcRR8 c | .rcRR9 c | .rcRR10 c | .rcRR11 c | .rcRR12 c | .rcRR13 c | .rcRR14 c | .rcRR15 c => some c
  | .wd c _ | .rd c | .dcd c _ | .cts c _ | .rxb c _ | .txb c | .ibf c | .obe c => some c
  | .adv _ | .rst => none

/-- The writes that R186 mirrors into the other channel's bank when `SHARED_WR_MIRROR` is true. -/
def mirrored : Instr → Bool
  | .wcWR2 _ _ | .wcWR9 _ _ => true
  | _ => false

/-- The instructions that clear the sticky bit of channel `c` and class `k` (last column of the table of R303): for
receive the data read, for transmit the data write and command 5, for external/status command 2; and reset. -/
def clearsSticky (c : Channel) : Cond → Instr → Bool
  | _, .rst => true
  | .rx, .rd c' | .rx, .rcRR8 c' => decide (c' = c)
  | .tx, .wd c' _ | .tx, .wcWR8 c' _ | .tx, .wc0ResetTxIntPending c' _ _ => decide (c' = c)
  | .ext, .wc0ResetExtStatusInt c' _ _ => decide (c' = c)
  | _, _ => false

/-- A control-port read (format CRn). -/
def isControlRead (op : Operation) : Bool := decide (op.kind = .readControl)

/-- A control-port write (formats CW0 and CWn). -/
def isControlWrite (op : Operation) : Bool := decide (op.kind = .writeControl)

/-! ### The IRQ line after a change of the sticky register or of the master enable (R308) -/

/-- What the IRQ sink is told when the level goes from `before` to `after`: nothing if it is the same, or if there is no
sink (R294, P9). -/
def irqEvents (cfg : Cfg) (before after : Bool) : List Event :=
  if before = after then [] else if cfg.sinks.irq then [.irq after] else []

/-- The state with the sticky register at `p`, the line at the level that gives, and the sink told of a change (R308). -/
def State.withSticky (s : State) (p : Byte) : State :=
  { s with rr3 := p, irqLine := s.mie && p != 0#8, events := s.events ++ irqEvents s.cfg s.irqLine (s.mie && p != 0#8) }

/-! ### The timing after a write of a format register (R241) -/

/-- The channel with its divisor, counter and cached parameters as the registers make them. -/
def ChannelState.retimed (cfg : Cfg) (c : Channel) (ch : ChannelState) : ChannelState :=
  { ch with
    charClockDivisor := newDivisor cfg ch
    charClockCounter := newDivisor cfg ch
    bps := newBps cfg c ch
    parity := parityOf cfg (ch.wr 4)
    bitsPerChar := bitsPerCharOf cfg (ch.wr 3) (ch.wr 5)
    stopBitsX2 := stopBitsX2Of cfg (ch.wr 4) }

/-- The four cached parameters. -/
def ChannelState.params (ch : ChannelState) : Nat × Parity × Nat × Nat :=
  (ch.bps, ch.parity, ch.bitsPerChar, ch.stopBitsX2)

/-- What the parameters sink of channel `c` is told when the record goes from `before` to `after`: the new values, if one
of the four changed and there is a sink (R297, P9, P24). -/
def paramsEvents (cfg : Cfg) (c : Channel) (before after : ChannelState) : List Event :=
  if after.params = before.params then []
  else if cfg.sinks.paramsChanged.get c then
    [.paramsChanged c after.bps (cfg.parityCode.of after.parity) after.bitsPerChar after.stopBitsX2]
  else []

/-- The state with the timing of channel `c` recomputed (R241). -/
def State.retimed (s : State) (c : Channel) : State :=
  { s.updChan c (ChannelState.retimed s.cfg c) with
    events := s.events ++ paramsEvents s.cfg c (s.chan c) ((s.chan c).retimed s.cfg c) }

/-- The state at the end of a write of register `i` of channel `c` whose other effects leave `s`: the timing of the channel
recomputed if `FORMAT_REGS` holds `i`, and nothing more if it does not (R91, R241, R365, P18). -/
def State.retimedFor (s : State) (c : Channel) (i : RegNum) : State :=
  if s.cfg.formatRegs.contains i then s.retimed c else s

end Sys2Proof.Machine
end

