-- ==== Sys2Proof/Certificates/Slice0/Obligations.lean ====
section
/-! DEFINITION. Certificates/Slice0/Obligations.lean: the statements for the provers. Each docstring names the rules of
spec/ it formalises. A statement of a next state is an equation `exec i s = .next t`, so it says both that the instruction
completes and its whole frame, or it says that there is such a `t` and what it holds. -/

open Sys2Proof Sys2Proof.Machine

/-! ### Encoding -/

/-- Decoding the operation that an instruction is, with the pointer its row asks for (any, if it asks for none), gives
the instruction back, whatever its operands (R111 to R121). -/
def Obligations.DecodeInvertsEncode : Prop :=
  ∀ (i : Instr) (ci : BitVec 4), (pointerOf i = none ∨ pointerOf i = some ci) → decode ci (encode i) = .ok i

/-- An operation decodes to an instruction only if it is that instruction's operation, and the pointer the one its row
asks for: no two rows share an operation (R111 to R121). -/
def Obligations.EncodeInvertsDecode : Prop :=
  ∀ (ci : BitVec 4) (op : Operation) (i : Instr), decode ci op = .ok i →
    encode i = op ∧ (pointerOf i = none ∨ pointerOf i = some ci)

/-- A triple decodes, whatever the pointer, exactly if it is an operation of R111 (R110, R119: no encoding is illegal). -/
def Obligations.DecodableExactlyOperations : Prop :=
  ∀ (ci : BitVec 4) (op : Operation), (∃ i, decode ci op = .ok i) ↔ op.wellFormed = true

/-- Some operations written out from the tables of R112, R113 and R117 decode to the rows they stand for; and each byte of
a register-0 write matches exactly the row of the opcode table whose number is its command field (R121). -/
def Obligations.WrittenOutOperationsDecode : Prop :=
  decode 0#4 ⟨.writeControl, some .A, .byte 0b10010011#8⟩ = .ok (.wc0ResetExtStatusInt .A 2#2 3#3) ∧
  decode 0#4 ⟨.writeControl, some .B, .byte 0b00001111#8⟩ = .ok (.wc0PointHigh .B 0#2 7#3) ∧
  decode 9#4 ⟨.writeControl, some .A, .byte 0b00001000#8⟩ = .ok (.wcWR9 .A 0x08#8) ∧
  decode 12#4 ⟨.readControl, some .B, .absent⟩ = .ok (.rcRR12 .B) ∧
  decode 5#4 ⟨.writeData, some .A, .byte 0x55#8⟩ = .ok (.wd .A 0x55#8) ∧
  decode 5#4 ⟨.advance, none, .nat 16384⟩ = .ok (.adv 16384) ∧
  ∀ (v : Byte) (k : Fin 8), (v &&& cw0Mask = cw0Matches.get k) ↔ v.extractLsb' 3 3 = BitVec.ofNat 3 k.val

/-! ### The step -/

/-- A step runs the operation at the head of the inbox: decoded with the register pointer, taken off the inbox, with no
event and no value yet. -/
def Obligations.StepRunsDecodedInstruction : Prop :=
  ∀ (s : State) (op : Operation) (rest : List Operation) (i : Instr),
    s.Ready → s.inbox = op :: rest → decode s.controlIndex op = .ok i →
    step s = exec i { s with inbox := rest, events := [], result := none }

/-- The step on a created chip (R352): `reset` runs; every other operation is refused. -/
def Obligations.CreatedChipTakesOnlyReset : Prop :=
  ∀ (s : State) (op : Operation) (rest : List Operation) (i : Instr),
    s.lifecycle = .created → s.cfg.wellFormed = true → s.cfg.packetMode = false →
    s.inbox = op :: rest → decode s.controlIndex op = .ok i →
    step s = if i = .rst then exec .rst { s with inbox := rest, events := [], result := none }
             else .refused .beforeFirstReset

/-- The other steps that run no instruction. With no operation applied the step changes nothing (the model's choice, log
entry 8). It refuses, by name, packet framing (R3: "a model must refuse"), a configuration that breaks a constraint "a
`Cfg` must meet" (R5), and a triple that is no operation of R111 (that the step refuses the last two is the model's
inference, log entries 11 and 12), in that order (the model's choice, log entry 12). -/
def Obligations.StepWithNothingToRun : Prop :=
  ∀ s : State, (s.inbox = [] → step s = .next s) ∧
    ∀ (op : Operation) (rest : List Operation), s.inbox = op :: rest →
      (s.cfg.packetMode = true → step s = .refused .packetFraming) ∧
      (s.cfg.packetMode = false → s.cfg.wellFormed = false → step s = .refused .illFormedConfiguration) ∧
      (s.cfg.packetMode = false → s.cfg.wellFormed = true → op.wellFormed = false →
        ∃ why, step s = .refused (.malformedOperation why))

/-! ### Whole-machine statements -/

/-- Every operation is defined for every value of its operands in every state that meets the invariants, and leaves them
holding (R320; the invariants are R55 to R59). -/
def Obligations.EveryOperationCompletesKeepingInvariant : Prop :=
  ∀ (i : Instr) (s : State), s.Inv → ∃ t, exec i s = .next t ∧ t.Inv

/-- Every step keeps the invariants (R55 to R59). -/
def Obligations.StepKeepsInvariant : Prop :=
  ∀ s t : State, s.Inv → step s = .next t → t.Inv

/-- The state after reset meets the invariants. -/
def Obligations.ResetStateMeetsInvariant : Prop := State.reset.Inv

/-- `reset` establishes the invariants from any state, the created one among them (R61, R352). -/
def Obligations.RstEstablishesInvariantFromAnyState : Prop :=
  ∀ s : State, ∃ t, exec .rst s = .next t ∧ t.Inv

/-- Any sequence of operations applied to a chip that has been reset runs to its end, one step each (R89, R110). -/
def Obligations.AnyOperationSequenceRunsToItsEnd : Prop :=
  ∀ s : State, s.Inv → s.Ready → (∀ op ∈ s.inbox, op.wellFormed = true) →
    ∃ t : State, Host.Core.run Sys2Proof.core s.inbox.length s = .next t ∧ t.inbox = [] ∧ t.Inv ∧ t.Ready

/-- After a control-port write whose pointer was not 0, and after every control-port read, the pointer is 0 (R60). -/
def Obligations.PointerZeroAfterAccess : Prop :=
  ∀ (s : State) (op : Operation) (rest : List Operation), s.Ready → s.inbox = op :: rest → op.wellFormed = true →
    (isControlWrite op = true ∧ s.controlIndex ≠ 0#4 ∨ isControlRead op = true) →
    ∃ t, step s = .next t ∧ t.controlIndex = 0#4

/-- A register-0 write of byte `v` leaves the pointer at `v[2:0]`, plus 8 if `v[5:3]` is 1 (R114), and stores the byte. -/
def Obligations.CommandByteSetsPointer : Prop :=
  ∀ (s : State) (c : Channel) (v : Byte) (rest : List Operation),
    s.Ready → s.controlIndex = 0#4 → s.inbox = ⟨.writeControl, some c, .byte v⟩ :: rest →
    ∃ t, step s = .next t ∧
      t.controlIndex.toNat = v.toNat % 8 + (if v.toNat / 8 % 8 = 1 then 8 else 0) ∧ (t.chan c).wr 0 = v

/-- An operation that is no control-port access and no reset leaves the pointer alone (R21, R118, R363). -/
def Obligations.OnlyControlPortMovesPointer : Prop :=
  ∀ (i : Instr) (s t : State), pointerOf i = none → i ≠ .rst → exec i s = .next t → t.controlIndex = s.controlIndex

/-- No operation changes the wiring (R20, R54, R350) or the operations still to be run. -/
def Obligations.WiringNeverChanges : Prop :=
  ∀ (i : Instr) (s t : State), exec i s = .next t → t.cfg = s.cfg ∧ t.inbox = s.inbox

/-- An operation that names a channel leaves the record of the other alone (R324), but for the writes that R186 mirrors
when the two banks are shared. -/
def Obligations.OtherChannelUntouched : Prop :=
  ∀ (i : Instr) (c : Channel) (s t : State), channelOf i = some c →
    ¬ (s.cfg.sharedWrMirror = true ∧ mirrored i = true) → exec i s = .next t →
    t.chan (otherChannel c) = s.chan (otherChannel c)

/-- A sticky bit that is set stays set through every operation but those that clear it by R303's table (R307). -/
def Obligations.StickyBitStaysUntilCleared : Prop :=
  ∀ (i : Instr) (c : Channel) (k : Cond) (s t : State), s.rr3 &&& sticky c k = sticky c k →
    clearsSticky c k i = false → exec i s = .next t → t.rr3 &&& sticky c k = sticky c k

/-- The underrun bit, once set, stays set through every operation but `reset` (R254: "No rule clears the bit except
reset"; that nothing else does is the spec's decision D15, log entry 19). -/
def Obligations.UnderrunBitStaysUntilReset : Prop :=
  ∀ (i : Instr) (c : Channel) (s t : State), s.cfg.wellFormed = true → i ≠ .rst →
    (s.chan c).rrs 0 &&& s.cfg.rr0Underrun ≠ 0#8 → exec i s = .next t →
    (t.chan c).rrs 0 &&& s.cfg.rr0Underrun ≠ 0#8

/-- All-Sent reads 1 always: reset sets it and no operation clears it (R41). -/
def Obligations.AllSentNeverCleared : Prop :=
  ∀ (i : Instr) (c : Channel) (s t : State), s.cfg.wellFormed = true →
    (s.chan c).rrs 1 &&& s.cfg.rr1AllSent = s.cfg.rr1AllSent → exec i s = .next t →
    (t.chan c).rrs 1 &&& s.cfg.rr1AllSent = s.cfg.rr1AllSent

/-- Only command 4 on a channel arms it (R52, R148). -/
def Obligations.OnlyCommandFourArms : Prop :=
  ∀ (i : Instr) (c : Channel) (s t : State), exec i s = .next t → (t.chan c).armed = true →
    (s.chan c).armed = true ∨ ∃ rsv ptr, i = .wc0EnableIntNextRx c rsv ptr

/-- The ring buffers are first in, first out: an operation other than reset takes at most one byte, from the head, and
adds at most one, at the tail (R47, R92, R259). -/
def Obligations.BuffersKeepByteOrder : Prop :=
  ∀ (i : Instr) (c : Channel) (s t : State), i ≠ .rst → exec i s = .next t →
    (∃ taken added, taken ≤ 1 ∧ added.length ≤ 1 ∧
      (t.chan c).rxBuffer = (s.chan c).rxBuffer.drop taken ++ added) ∧
    (∃ taken added, taken ≤ 1 ∧ added.length ≤ 1 ∧
      (t.chan c).txBuffer = (s.chan c).txBuffer.drop taken ++ added)

/-- The order in which `advance` steps the two channels shows only in the event list, never in the state after it (R230). -/
def Obligations.ChannelAdvanceOrderImmaterial : Prop :=
  ∀ (n : Nat) (s : State), ∃ t, exec (.adv n) s = .next t ∧
    { t with events := [] } = { chnAdvance .A n (chnAdvance .B n s) with events := [] }

/-- The index form of a ring buffer is the queue of R92 (R93): empty, full, enqueue, dequeue and clear agree. -/
def Obligations.RingIndexFormIsQueue : Prop :=
  ∀ r : Ring, r.wf = true →
    (r.isEmpty = true ↔ r.toQueue = []) ∧
    (r.isFull = true ↔ r.toQueue.length = r.cap - 1) ∧
    (∀ v, r.isFull = false → (r.enqueue v).wf = true ∧ (r.enqueue v).toQueue = r.toQueue ++ [v]) ∧
    (r.isEmpty = false → r.dequeue.wf = true ∧ r.toQueue = r.head :: r.dequeue.toQueue) ∧
    r.clear.wf = true ∧ r.clear.toQueue = []

/-- The six sticky bits are those of the table of R22. -/
def Obligations.StickyBitTable : Prop :=
  sticky .A .rx = 0x20#8 ∧ sticky .A .tx = 0x10#8 ∧ sticky .A .ext = 0x08#8 ∧
  sticky .B .rx = 0x04#8 ∧ sticky .B .tx = 0x02#8 ∧ sticky .B .ext = 0x01#8

/-! ### Commands (R140, R144 to R151) -/

/-- Commands 0, 1, 3 and 7 store the byte in WR0 and set the pointer, to which point high adds 8 (R144, R145, R147, R151);
besides, the timing is recomputed if `FORMAT_REGS` holds 0 (R241; log entry 14), and nothing else changes. -/
def Obligations.CommandsWithoutEffectOfTheirOwn : Prop :=
  ∀ (c : Channel) (rsv : BitVec 2) (ptr : BitVec 3) (s : State),
    let after := fun (k : BitVec 3) (high : BitVec 1) => State.retimedFor
      { s.updChan c (fun ch => ch.setWr 0 (rsv ++ k ++ ptr)) with controlIndex := high ++ ptr } c 0
    exec (.wc0Null c rsv ptr) s = .next (after 0#3 0#1) ∧
    exec (.wc0PointHigh c rsv ptr) s = .next (after 1#3 1#1) ∧
    exec (.wc0SendAbort c rsv ptr) s = .next (after 3#3 0#1) ∧
    exec (.wc0ResetHighestIus c rsv ptr) s = .next (after 7#3 0#1)

/-- Command 2 clears the external/status sticky bit and the status latch of its channel, command 5 the transmit sticky bit
(R146, R306; for command 5 R149's inference from its name); each brings the IRQ line up to date, with an event on a change
only (R308, decision D20); last, the timing if `FORMAT_REGS` holds 0 (R241; log entry 14). -/
def Obligations.ClearingCommands : Prop :=
  ∀ (c : Channel) (rsv : BitVec 2) (ptr : BitVec 3) (s : State),
    exec (.wc0ResetExtStatusInt c rsv ptr) s =
      .next ((State.withSticky
        { s.updChan c (fun ch => { ch.setWr 0 (rsv ++ 2#3 ++ ptr) with statusLatchMask := 0#8 }) with
          controlIndex := 0#1 ++ ptr }
        (s.rr3 &&& ~~~sticky c .ext)).retimedFor c 0) ∧
    exec (.wc0ResetTxIntPending c rsv ptr) s =
      .next ((State.withSticky
        { s.updChan c (fun ch => ch.setWr 0 (rsv ++ 5#3 ++ ptr)) with controlIndex := 0#1 ++ ptr }
        (s.rr3 &&& ~~~sticky c .tx)).retimedFor c 0)

/-- Command 4 arms its channel; command 6 clears the opt-in overrun bit if the report is on; neither does more (R148,
R150), but for the timing if `FORMAT_REGS` holds 0 (R241; log entry 14). -/
def Obligations.ArmAndErrorReset : Prop :=
  ∀ (c : Channel) (rsv : BitVec 2) (ptr : BitVec 3) (s : State),
    exec (.wc0EnableIntNextRx c rsv ptr) s =
      .next (State.retimedFor { s.updChan c (fun ch => { ch.setWr 0 (rsv ++ 4#3 ++ ptr) with armed := true }) with
        controlIndex := 0#1 ++ ptr } c 0) ∧
    exec (.wc0ErrorReset c rsv ptr) s =
      .next (State.retimedFor { s.updChan c (fun ch =>
          let stored := ch.setWr 0 (rsv ++ 6#3 ++ ptr)
          if s.cfg.rxOverrunReport then stored.setRrs 1 (ch.rrs 1 &&& ~~~s.cfg.rr1Overrun) else stored) with
        controlIndex := 0#1 ++ ptr } c 0)

/-! ### Register writes (R170 to R186) -/

/-- The writes of WR6, WR7, WR10 and WR11 store the byte, consume the pointer, and do nothing else (R176, R177, R179,
R180), `FORMAT_REGS` not holding the register. -/
def Obligations.UnmentionedRegistersOnlyStore : Prop :=
  ∀ (c : Channel) (v : Byte) (s : State),
    (s.cfg.formatRegs.contains 6 = false →
      exec (.wcWR6 c v) s = .next { s.updChan c (fun ch => ch.setWr 6 v) with controlIndex := 0#4 }) ∧
    (s.cfg.formatRegs.contains 7 = false →
      exec (.wcWR7 c v) s = .next { s.updChan c (fun ch => ch.setWr 7 v) with controlIndex := 0#4 }) ∧
    (s.cfg.formatRegs.contains 10 = false →
      exec (.wcWR10 c v) s = .next { s.updChan c (fun ch => ch.setWr 10 v) with controlIndex := 0#4 }) ∧
    (s.cfg.formatRegs.contains 11 = false →
      exec (.wcWR11 c v) s = .next { s.updChan c (fun ch => ch.setWr 11 v) with controlIndex := 0#4 })

/-- The writes of WR1, WR2, WR3 and WR15 raise nothing, clear nothing and recompute nothing: they store the byte (in both
banks for a mirrored WR2) and consume the pointer (R171, R172, R173, R184, R186), `FORMAT_REGS` not holding the
register. -/
def Obligations.EnableAndMaskWritesOnlyStore : Prop :=
  ∀ (c : Channel) (v : Byte) (s : State),
    (s.cfg.formatRegs.contains 1 = false →
      exec (.wcWR1 c v) s = .next { s.updChan c (fun ch => ch.setWr 1 v) with controlIndex := 0#4 }) ∧
    (s.cfg.formatRegs.contains 2 = false → s.cfg.sharedWrMirror = false →
      exec (.wcWR2 c v) s = .next { s.updChan c (fun ch => ch.setWr 2 v) with controlIndex := 0#4 }) ∧
    (s.cfg.formatRegs.contains 2 = false → s.cfg.sharedWrMirror = true →
      exec (.wcWR2 c v) s =
        .next { s with chanA := s.chanA.setWr 2 v, chanB := s.chanB.setWr 2 v, controlIndex := 0#4 }) ∧
    (s.cfg.formatRegs.contains 3 = false →
      exec (.wcWR3 c v) s = .next { s.updChan c (fun ch => ch.setWr 3 v) with controlIndex := 0#4 }) ∧
    (s.cfg.formatRegs.contains 15 = false →
      exec (.wcWR15 c v) s = .next { s.updChan c (fun ch => ch.setWr 15 v) with controlIndex := 0#4 })

/-- A register that `FORMAT_REGS` holds, of those the default set does not hold, has the timing recomputed after its
write (R241, P18; R365). That a mirrored write of WR2 or WR9 recomputes the channel of the write alone is log entry 20,
that the recomputation comes after the IRQ line of WR9 log entry 14, both the model's inferences; the recomputation itself
rests on the spec's decisions D9, D11 and D32. For 0 and 8 see the commands and the data write. -/
def Obligations.AddedFormatRegistersRetime : Prop :=
  ∀ (c : Channel) (v : Byte) (s : State),
    let stored := fun i : RegNum => { s.updChan c (fun ch => ch.setWr i v) with controlIndex := 0#4 }
    let both := fun i : RegNum =>
      { s with chanA := s.chanA.setWr i v, chanB := s.chanB.setWr i v, controlIndex := 0#4 }
    (s.cfg.formatRegs.contains 1 = true → exec (.wcWR1 c v) s = .next ((stored 1).retimed c)) ∧
    (s.cfg.formatRegs.contains 2 = true → s.cfg.sharedWrMirror = false →
      exec (.wcWR2 c v) s = .next ((stored 2).retimed c)) ∧
    (s.cfg.formatRegs.contains 2 = true → s.cfg.sharedWrMirror = true →
      exec (.wcWR2 c v) s = .next ((both 2).retimed c)) ∧
    (s.cfg.formatRegs.contains 9 = true → s.cfg.sharedWrMirror = false →
      exec (.wcWR9 c v) s = .next (((stored 9).withSticky s.rr3).retimed c)) ∧
    (s.cfg.formatRegs.contains 9 = true → s.cfg.sharedWrMirror = true →
      exec (.wcWR9 c v) s = .next (((both 9).withSticky s.rr3).retimed c)) ∧
    (s.cfg.formatRegs.contains 3 = true → exec (.wcWR3 c v) s = .next ((stored 3).retimed c)) ∧
    (s.cfg.formatRegs.contains 6 = true → exec (.wcWR6 c v) s = .next ((stored 6).retimed c)) ∧
    (s.cfg.formatRegs.contains 7 = true → exec (.wcWR7 c v) s = .next ((stored 7).retimed c)) ∧
    (s.cfg.formatRegs.contains 10 = true → exec (.wcWR10 c v) s = .next ((stored 10).retimed c)) ∧
    (s.cfg.formatRegs.contains 11 = true → exec (.wcWR11 c v) s = .next ((stored 11).retimed c)) ∧
    (s.cfg.formatRegs.contains 15 = true → exec (.wcWR15 c v) s = .next ((stored 15).retimed c))

/-- The writes of WR4, WR12, WR13 and WR14 store the byte and recompute the timing: divisor, reloaded counter (decision
D9), cached parameters with the floor in `bps` (D11), and the sink told if one of them changed (D32) (R174, R181, R182,
R183, R241). -/
def Obligations.FormatRegisterWritesRetime : Prop :=
  ∀ (c : Channel) (v : Byte) (s : State),
    let stored := fun i : RegNum => { s.updChan c (fun ch => ch.setWr i v) with controlIndex := 0#4 }
    exec (.wcWR4 c v) s = .next ((stored 4).retimed c) ∧
    exec (.wcWR12 c v) s = .next ((stored 12).retimed c) ∧
    exec (.wcWR13 c v) s = .next ((stored 13).retimed c) ∧
    exec (.wcWR14 c v) s = .next ((stored 14).retimed c)

/-- The write of WR5 tells the RTS sink, and only when bit 1 changes, then recomputes the timing if `FORMAT_REGS` holds 5
(R175, R283). -/
def Obligations.TransmitControlWriteReportsRts : Prop :=
  ∀ (c : Channel) (v : Byte) (s : State),
    let changed := ((s.chan c).wr 5).getLsbD 1 != v.getLsbD 1
    let stored : State :=
      { s.updChan c (fun ch => ch.setWr 5 v) with
        controlIndex := 0#4
        events := s.events ++ if changed && s.cfg.sinks.rts.get c then [.rts c (v.getLsbD 1)] else [] }
    exec (.wcWR5 c v) s = .next (if s.cfg.formatRegs.contains 5 then stored.retimed c else stored)

/-- The write of WR9 stores the byte, in its own bank or in both when they are mirrored, and brings the IRQ line up to
date at once with the master enable then in channel A's WR9 (R178, R186), `FORMAT_REGS` not holding 9. -/
def Obligations.MasterEnableWriteMovesIrqAtOnce : Prop :=
  ∀ (c : Channel) (v : Byte) (s : State), s.cfg.formatRegs.contains 9 = false →
    (s.cfg.sharedWrMirror = false →
      exec (.wcWR9 c v) s =
        .next (State.withSticky { s.updChan c (fun ch => ch.setWr 9 v) with controlIndex := 0#4 } s.rr3)) ∧
    (s.cfg.sharedWrMirror = true →
      exec (.wcWR9 c v) s =
        .next (State.withSticky
          { s with chanA := s.chanA.setWr 9 v, chanB := s.chanB.setWr 9 v, controlIndex := 0#4 } s.rr3))

/-- `wreg` (R123): from a pointer of 0, the two operations leave the byte in the register named, of the channel named, and
the pointer at 0 again. -/
def Obligations.RegisterWritePairLands : Prop :=
  ∀ (s : State) (c : Channel) (n : RegNum) (v : Byte) (rest : List Operation),
    s.Ready → s.controlIndex = 0#4 → n ≠ 0 → s.inbox = wreg c n v ++ rest →
    ∃ t : State, Host.Core.run Sys2Proof.core 2 s = .next t ∧
      (t.chan c).wr n = v ∧ t.controlIndex = 0#4 ∧ t.inbox = rest

/-! ### Timing (R230 to R243) -/

/-- The formula of R241 is exact: with the generator on, twice the divisor is the sum it halves; a bit time is even and
at least 4 units; `bps` is the floor of the quotient; with the generator off the divisor is 16384. Under the default
`decode` a character takes from 24 to 100,664,832 clock units (R49, R59, R242). -/
def Obligations.DivisorFormulaExact : Prop :=
  ∀ (cfg : Cfg) (c : Channel) (ch : ChannelState),
    let bits := bitsPerCharOf cfg (ch.wr 3) (ch.wr 5)
    let sb2 := stopBitsX2Of cfg (ch.wr 4)
    let mult := if syncMode cfg (ch.wr 4) then 1 else (clockModeMultiplier cfg (ch.wr 4)).toNat
    let raw := 2 * mult * (timeConstant cfg (ch.wr 12) (ch.wr 13) + 2)
    4 ≤ raw ∧ raw % 2 = 0 ∧
    (brgEnabled cfg (ch.wr 14) = true →
      2 * newDivisor cfg ch =
        (2 * bits + sb2 + 2) * raw + (if parityOf cfg (ch.wr 4) = .none then 0 else 2 * raw) ∧
      newBps cfg c ch * raw ≤ clockRate cfg c (ch.wr 14) ∧
      clockRate cfg c (ch.wr 14) < (newBps cfg c ch + 1) * raw) ∧
    (brgEnabled cfg (ch.wr 14) = false → newDivisor cfg ch = 16384 ∧ newBps cfg c ch = 0) ∧
    (cfg.decode = DecodeChoice.allDefault → 24 ≤ newDivisor cfg ch ∧ newDivisor cfg ch ≤ 100664832)

/-- The values of R243's table, and those with the generator off. -/
def Obligations.DivisorTableValues : Prop :=
  let row := fun (w4 w5 : Byte) (tc mult bits sb2 : Nat) (par : Parity) (raw d bps : Nat) =>
    ∀ ch : ChannelState, ch.wr 4 = w4 → ch.wr 5 = w5 → ch.wr 12 = BitVec.ofNat 8 tc →
      ch.wr 13 = BitVec.ofNat 8 (tc / 256) → ch.wr 14 = 0x03#8 →
      formatMult Cfg.ref ch = mult ∧ bitsPerCharOf Cfg.ref (ch.wr 3) w5 = bits ∧ stopBitsX2Of Cfg.ref w4 = sb2 ∧
      parityOf Cfg.ref w4 = par ∧ divisorRaw Cfg.ref ch = raw ∧ newDivisor Cfg.ref ch = d ∧
      newBps Cfg.ref .A ch = bps
  row 0x44#8 0x60#8 10 16 8 2 .none 384 3840 9600 ∧
  row 0x45#8 0x60#8 10 16 8 2 .odd 384 4224 9600 ∧
  row 0x47#8 0x60#8 10 16 8 2 .even 384 4224 9600 ∧
  row 0x04#8 0x60#8 0 1 8 2 .none 4 40 921600 ∧
  row 0x48#8 0x00#8 1 16 5 3 .none 96 720 38400 ∧
  row 0x4C#8 0x20#8 4 16 7 4 .none 192 1920 19200 ∧
  row 0xC0#8 0x60#8 0 1 8 0 .none 4 36 921600 ∧
  row 0x44#8 0x60#8 11 16 8 2 .none 416 4160 8861 ∧
  row 0xCF#8 0x60#8 65535 64 8 4 .even 8388736 100664832 0 ∧
  row 0x00#8 0x00#8 0 1 5 0 .none 4 24 921600 ∧
  ∀ (c : Channel) (ch : ChannelState), (ch.wr 14).getLsbD 0 = false →
    newDivisor Cfg.ref ch = 16384 ∧ newBps Cfg.ref c ch = 0

/-- `advance` by less than both counters only counts them down (R231). -/
def Obligations.AdvanceBelowCountersOnlyCounts : Prop :=
  ∀ (n : Nat) (s : State), n < s.chanA.charClockCounter → n < s.chanB.charClockCounter →
    exec (.adv n) s = .next { s with
      chanA := { s.chanA with charClockCounter := s.chanA.charClockCounter - n }
      chanB := { s.chanB with charClockCounter := s.chanB.charClockCounter - n } }

/-- `advance` moves each channel's clock by R231's rule. Below the counter the channel only counts. At or past it there is
one character tick, however large `n` is: the counter is reloaded, the quotas are granted once, and at most one byte leaves
the receive buffer and at most one enters the transmit buffer, each for one of its quota. No write register, no divisor, no
cached parameter, no read register but the external-status byte and the receive latch, and not the pointer, is touched. -/
def Obligations.AdvanceMovesBothClocks : Prop :=
  ∀ (n : Nat) (s : State), s.Inv → ∃ t, exec (.adv n) s = .next t ∧
    t.controlIndex = s.controlIndex ∧ t.lifecycle = s.lifecycle ∧ t.result = s.result ∧
    ∀ c : Channel,
      let ch := s.chan c
      (n < ch.charClockCounter → t.chan c = { ch with charClockCounter := ch.charClockCounter - n }) ∧
      (ch.charClockCounter ≤ n →
        (t.chan c).charClockCounter = ch.charClockDivisor - (n - ch.charClockCounter) % ch.charClockDivisor ∧
        ∃ (taken : Nat) (added : List Byte), taken ≤ 1 ∧ taken ≤ ch.rxBuffer.length ∧ added.length ≤ 1 ∧
          (t.chan c).rxBuffer = ch.rxBuffer.drop taken ∧ (t.chan c).readQuota + taken = s.cfg.multiR.get c ∧
          (t.chan c).txBuffer = ch.txBuffer ++ added ∧ (t.chan c).writeQuota + added.length = s.cfg.multiW.get c) ∧
      (t.chan c).writeRegs = ch.writeRegs ∧
      (∀ i, i ≠ 0 → i ≠ 8 → (t.chan c).rrs i = ch.rrs i) ∧
      (t.chan c).charClockDivisor = ch.charClockDivisor ∧
      (t.chan c).params = ch.params

/-- A character tick of a channel with nothing to send, and room for it, notes the underrun, whether or not the tick
receives a byte: the underrun bit is set; the snapshot is taken, and the external/status sticky bit set, exactly if the bit
was 0 and P22, WR15 and WR1 enable it; nothing is sent and the transmit quota is granted whole (R231, R253, R254). With
nothing to receive either, the rest of the channel's record is as the tick leaves it. -/
def Obligations.IdleTickNotesUnderrun : Prop :=
  ∀ (n : Nat) (c : Channel) (s : State), s.Inv → s.cfg.wellFormed = true →
    (s.chan c).charClockCounter ≤ n → (s.chan c).txdEmpty = true →
    (s.chan c).txBuffer.length ≠ s.cfg.ringCap - 1 →
    let ch := s.chan c
    let raised := ch.rrs 0 &&& s.cfg.rr0Underrun = 0#8 ∧ s.cfg.underrunExtInt = true ∧
      ch.wr 15 &&& s.cfg.rr0Underrun ≠ 0#8 ∧ (ch.wr 1).getLsbD 0 = true
    let byte := ch.rrs 0 ||| s.cfg.rr0Underrun
    let mask := if raised then ch.wr 15 &&& extMask s.cfg else ch.statusLatchMask
    let value := if raised then byte else ch.statusLatchValue
    ∃ t l, exec (.adv n) s = .next t ∧ t.events = s.events ++ l ∧
      (t.chan c).rrs 0 = byte ∧ (t.chan c).statusLatchMask = mask ∧ (t.chan c).statusLatchValue = value ∧
      (t.chan c).txBuffer = ch.txBuffer ∧ (t.chan c).txdEmpty = true ∧
      (t.chan c).writeQuota = s.cfg.multiW.get c ∧ (∀ v, Event.outputByte c v ∉ l) ∧
      t.rr3 &&& sticky c .ext = (if raised then sticky c .ext else s.rr3 &&& sticky c .ext) ∧
      t.rr3 &&& sticky c .tx = s.rr3 &&& sticky c .tx ∧
      (ch.rxBuffer = [] → t.chan c = { ch.setRrs 0 byte with
        charClockCounter := ch.charClockDivisor - (n - ch.charClockCounter) % ch.charClockDivisor
        readQuota := s.cfg.multiR.get c
        writeQuota := s.cfg.multiW.get c
        statusLatchMask := mask
        statusLatchValue := value })

/-- What a character tick does on the receive side (R231, R251, R252, R304). With a byte queued, the receiver enabled
and the latch empty, it brings the byte at the head to the latch, uses one of the quota, disarms, tells the sink, and
sets the receive sticky bit exactly if the mode's trigger holds. With the latch still full, P6 decides: `hold` leaves
all as it is, `drop` discards the byte, `overwrite` puts it over the older one (details: decision D13); none tells the
sink, disarms or sets a sticky bit. With nothing queued, or the receiver disabled, only the quota is granted. -/
def Obligations.TickDeliversReceivedByte : Prop :=
  ∀ (n : Nat) (c : Channel) (s : State), s.Inv → s.cfg.wellFormed = true → (s.chan c).charClockCounter ≤ n →
    let ch := s.chan c
    let side := fun x : ChannelState => (x.rxBuffer, x.rxLatch, x.rxdEmpty, x.readQuota, x.armed)
    let enabled := (ch.wr 3).getLsbD 0
    let mode := (ch.wr 1).extractLsb' 3 2
    let full := s.cfg.multiR.get c
    ∃ t l, exec (.adv n) s = .next t ∧ t.events = s.events ++ l ∧
      (∀ v rest, ch.rxBuffer = v :: rest → enabled = true → ch.rxdEmpty = true →
        side (t.chan c) = (rest, v, false, full - 1, false) ∧
        (s.cfg.sinks.inputAvailable.get c = true → Event.inputAvailable c true ∈ l) ∧
        t.rr3 &&& sticky c .rx =
          if mode = 2#2 ∨ (mode = 1#2 ∧ ch.armed = true) then sticky c .rx else s.rr3 &&& sticky c .rx) ∧
      (∀ v rest, ch.rxBuffer = v :: rest → enabled = true → ch.rxdEmpty = false →
        side (t.chan c) = (match s.cfg.latchFullPolicy with
          | .hold => (v :: rest, ch.rxLatch, false, full, ch.armed)
          | .drop => (rest, ch.rxLatch, false, full - 1, ch.armed)
          | .overwrite => (rest, v, false, full - 1, ch.armed)) ∧
        (∀ b, Event.inputAvailable c b ∉ l) ∧ t.rr3 &&& sticky c .rx = s.rr3 &&& sticky c .rx) ∧
      (ch.rxBuffer = [] ∨ enabled = false →
        side (t.chan c) = (ch.rxBuffer, ch.rxLatch, ch.rxdEmpty, full, ch.armed) ∧
        (∀ b, Event.inputAvailable c b ∉ l) ∧ t.rr3 &&& sticky c .rx = s.rr3 &&& sticky c .rx)

/-- What a character tick does with the transmit latch (R231, R253). With a byte in it and room, it moves the byte to
the transmit buffer (decision D14; no transmitter enable is asked, D40), uses one of the quota, tells the sink, and
sets the transmit sticky bit exactly if it was set or WR1 bit 1 enables it. With the transmit buffer full, nothing
moves, whatever the latch holds, and no underrun is noted (corner case b of R253). For an empty latch with room see
`IdleTickNotesUnderrun`. -/
def Obligations.TickSendsLatchedByte : Prop :=
  ∀ (n : Nat) (c : Channel) (s : State), s.Inv → s.cfg.wellFormed = true → (s.chan c).charClockCounter ≤ n →
    let ch := s.chan c
    let side := fun x : ChannelState => (x.txBuffer, x.txLatch, x.txdEmpty, x.writeQuota)
    let status := fun x : ChannelState => (x.rrs 0, x.statusLatchMask, x.statusLatchValue)
    let full := s.cfg.multiW.get c
    ∃ t l, exec (.adv n) s = .next t ∧ t.events = s.events ++ l ∧
      (ch.txdEmpty = false ∨ ch.txBuffer.length = s.cfg.ringCap - 1 →
        status (t.chan c) = status ch ∧ t.rr3 &&& sticky c .ext = s.rr3 &&& sticky c .ext) ∧
      (ch.txdEmpty = false → ch.txBuffer.length ≠ s.cfg.ringCap - 1 →
        side (t.chan c) = (ch.txBuffer ++ [ch.txLatch], ch.txLatch, true, full - 1) ∧
        (s.cfg.sinks.outputByte.get c = true → Event.outputByte c ch.txLatch ∈ l) ∧
        t.rr3 &&& sticky c .tx = if (ch.wr 1).getLsbD 1 then sticky c .tx else s.rr3 &&& sticky c .tx) ∧
      (ch.txBuffer.length = s.cfg.ringCap - 1 →
        side (t.chan c) = (ch.txBuffer, ch.txLatch, ch.txdEmpty, full) ∧
        (∀ v, Event.outputByte c v ∉ l) ∧ t.rr3 &&& sticky c .tx = s.rr3 &&& sticky c .tx)

/-! ### Register reads (R200 to R216) -/

/-- RR0 (R201): the external-status bits, those the latch covers from the snapshot; data available; Tx-empty. -/
def Obligations.StatusReadComposesRR0 : Prop :=
  ∀ (c : Channel) (s : State),
    let ch := s.chan c
    let ext := (ch.rrs 0 &&& ~~~ch.statusLatchMask) ||| (ch.statusLatchValue &&& ch.statusLatchMask)
    exec (.rcRR0 c) s = .next { s with
      controlIndex := 0#4
      result := some (.byte (ext ||| (if ch.rxdEmpty then 0x00#8 else s.cfg.rr0RxAvail)
        ||| (if ch.txdEmpty then s.cfg.rr0TxEmpty else 0x00#8))) }

/-- RR1 is the stored byte (R202; that it is not synthesized is the spec's reading of "optionally 1", R200, U4), and
RR3 the sticky register through channel A and 0 through channel B (R204). -/
def Obligations.ReadsOfRR1AndRR3 : Prop :=
  ∀ (c : Channel) (s : State),
    exec (.rcRR1 c) s = .next { s with controlIndex := 0#4, result := some (.byte ((s.chan c).rrs 1)) } ∧
    exec (.rcRR3 .A) s = .next { s with controlIndex := 0#4, result := some (.byte s.rr3) } ∧
    exec (.rcRR3 .B) s = .next { s with controlIndex := 0#4, result := some (.byte 0x00#8) }

/-- RR2 is `vector_encode` of channel A's WR2 and WR9, the sticky register and the channel; under the default it is WR2
through A, and through B it carries the code of the highest pending source in bits 3..1, or reversed in bits 6..4
(R203). -/
def Obligations.VectorRead : Prop :=
  ∀ (c : Channel) (s : State),
    let w2 := s.chanA.wr 2
    let w9 := s.chanA.wr 9
    let p := s.rr3
    let code : Nat := if p.getLsbD 5 then 6 else if p.getLsbD 4 then 4 else if p.getLsbD 3 then 5
      else if p.getLsbD 2 then 2 else if p.getLsbD 1 then 0 else if p.getLsbD 0 then 1 else 3
    exec (.rcRR2 c) s =
      .next { s with controlIndex := 0#4, result := some (.byte (vectorEncode s.cfg w2 w9 p c)) } ∧
    (s.cfg.vectorEncode = .default →
      vectorEncode s.cfg w2 w9 p .A = w2 ∧
      vectorEncode s.cfg w2 w9 p .B =
        if w9.getLsbD 4 then
          (w2 &&& 0x8F#8) ||| BitVec.ofNat 8 (code % 2 * 64 + code / 2 % 2 * 32 + code / 4 * 16)
        else (w2 &&& 0xF1#8) ||| BitVec.ofNat 8 (code * 2))

/-- The reads of RR4 to RR7, RR9 to RR11 and RR14 return 0x00 on a chip that meets the invariants, the register not being
in `MIRROR_RR` (R205 to R208, R210 to R212, R215). -/
def Obligations.UnusedReadRegistersReadZero : Prop :=
  ∀ (c : Channel) (s : State), s.Inv →
    let zero := { s with controlIndex := 0#4, result := some (.byte 0x00#8) }
    (s.cfg.mirrorRR.contains 4 = false → exec (.rcRR4 c) s = .next zero ∧ (s.chan c).rrs 4 = 0x00#8) ∧
    (s.cfg.mirrorRR.contains 5 = false → exec (.rcRR5 c) s = .next zero ∧ (s.chan c).rrs 5 = 0x00#8) ∧
    (s.cfg.mirrorRR.contains 6 = false → exec (.rcRR6 c) s = .next zero ∧ (s.chan c).rrs 6 = 0x00#8) ∧
    (s.cfg.mirrorRR.contains 7 = false → exec (.rcRR7 c) s = .next zero ∧ (s.chan c).rrs 7 = 0x00#8) ∧
    (s.cfg.mirrorRR.contains 9 = false → exec (.rcRR9 c) s = .next zero ∧ (s.chan c).rrs 9 = 0x00#8) ∧
    (s.cfg.mirrorRR.contains 10 = false → exec (.rcRR10 c) s = .next zero ∧ (s.chan c).rrs 10 = 0x00#8) ∧
    (s.cfg.mirrorRR.contains 11 = false → exec (.rcRR11 c) s = .next zero ∧ (s.chan c).rrs 11 = 0x00#8) ∧
    (s.cfg.mirrorRR.contains 14 = false → exec (.rcRR14 c) s = .next zero ∧ (s.chan c).rrs 14 = 0x00#8)

/-- A read of a register that `MIRROR_RR` holds returns the write register of the same number, one it does not hold the
stored byte (R45, R46 and the note after R216, decision D26, log entry 5; for 12, 13 and 15, which it holds by default,
R213, R214, R216). -/
def Obligations.MirrorReads : Prop :=
  ∀ (c : Channel) (s : State),
    let value := fun n : RegNum => if s.cfg.mirrorRR.contains n then (s.chan c).wr n else (s.chan c).rrs n
    let after := fun n : RegNum => { s with controlIndex := 0#4, result := some (.byte (value n)) }
    exec (.rcRR4 c) s = .next (after 4) ∧ exec (.rcRR5 c) s = .next (after 5) ∧
    exec (.rcRR6 c) s = .next (after 6) ∧ exec (.rcRR7 c) s = .next (after 7) ∧
    exec (.rcRR9 c) s = .next (after 9) ∧ exec (.rcRR10 c) s = .next (after 10) ∧
    exec (.rcRR11 c) s = .next (after 11) ∧ exec (.rcRR12 c) s = .next (after 12) ∧
    exec (.rcRR13 c) s = .next (after 13) ∧ exec (.rcRR14 c) s = .next (after 14) ∧
    exec (.rcRR15 c) s = .next (after 15)

/-- What a read of each register returns right after reset (R63). -/
def Obligations.ReadsRightAfterReset : Prop :=
  ∀ (c : Channel) (n : BitVec 4), ∃ t,
    exec (decodeReadControl n c) { State.reset with controlIndex := n } = .next t ∧
    t.result = some (.byte (if n = 0#4 then 0x04#8 else if n = 1#4 then 0x01#8
      else if n = 2#4 ∧ c = .B then 0x06#8 else 0x00#8))

/-! ### The data register (R255, R256) -/

/-- `write_data` with no quota or no room: the byte waits in the latch; the transmit sticky bit is cleared; last, the timing
if `FORMAT_REGS` holds 8 (R241; log entry 14). Through the control port the pointer is consumed besides (R185, R255). -/
def Obligations.WriteDataWaitsInLatch : Prop :=
  ∀ (c : Channel) (v : Byte) (s : State),
    ((s.chan c).writeQuota = 0 ∨ (s.chan c).txBuffer.length = s.cfg.ringCap - 1) →
    let t := (State.withSticky (s.updChan c fun ch => { ch.setWr 8 v with txdEmpty := false })
      (s.rr3 &&& ~~~sticky c .tx)).retimedFor c 8
    exec (.wd c v) s = .next t ∧ exec (.wcWR8 c v) s = .next { t with controlIndex := 0#4 }

/-- `write_data` with quota and room: the sticky bit is cleared, the byte goes through the latch to the buffer and to the
sink (decision D14; no transmitter enable is asked, D40), and the bit is set again if WR1 bit 1 enables it, the IRQ sink
told of each change (D20); last, the timing if `FORMAT_REGS` holds 8 (R241; log entry 14) (R185, R253, R255). -/
def Obligations.WriteDataSendsAtOnce : Prop :=
  ∀ (c : Channel) (v : Byte) (s : State),
    (s.chan c).writeQuota ≠ 0 → (s.chan c).txBuffer.length ≠ s.cfg.ringCap - 1 →
    let p := s.rr3 &&& ~~~sticky c .tx
    let cleared := State.withSticky (s.updChan c fun ch => { ch.setWr 8 v with
      txBuffer := ch.txBuffer ++ [v], txdEmpty := true, writeQuota := ch.writeQuota - 1 }) p
    let sent := { cleared with
      events := cleared.events ++ if s.cfg.sinks.outputByte.get c then [.outputByte c v] else [] }
    let raised := State.withSticky sent (if ((s.chan c).wr 1).getLsbD 1 then p ||| sticky c .tx else p)
    let t := raised.retimedFor c 8
    exec (.wd c v) s = .next t ∧ exec (.wcWR8 c v) s = .next { t with controlIndex := 0#4 }

/-- `read_data` with nothing to pull (buffer empty, no quota, or receiver disabled): the latch's byte is returned, the
latch marked empty, the receive sticky bit cleared (R209, R256). -/
def Obligations.ReadDataEmptiesLatch : Prop :=
  ∀ (c : Channel) (s : State),
    ((s.chan c).rxBuffer = [] ∨ (s.chan c).readQuota = 0 ∨ ((s.chan c).wr 3).getLsbD 0 = false) →
    let t := { State.withSticky (s.updChan c fun ch => { ch with rxdEmpty := true }) (s.rr3 &&& ~~~sticky c .rx) with
      result := some (.byte (s.chan c).rxLatch) }
    exec (.rd c) s = .next t ∧ exec (.rcRR8 c) s = .next { t with controlIndex := 0#4 }

/-- `read_data` with a byte to pull: the old byte is returned and the next one is in the latch, with all the effects of
the receive check (R209, R251, R256, R304). -/
def Obligations.ReadDataPullsNextByte : Prop :=
  ∀ (c : Channel) (s : State) (v : Byte) (rest : List Byte),
    (s.chan c).rxBuffer = v :: rest → (s.chan c).readQuota ≠ 0 → ((s.chan c).wr 3).getLsbD 0 = true →
    let mode := ((s.chan c).wr 1).extractLsb' 3 2
    let p := s.rr3 &&& ~~~sticky c .rx
    let cleared := State.withSticky (s.updChan c fun ch => { ch.setRrs 8 v with
      rxBuffer := rest, rxdEmpty := false, readQuota := ch.readQuota - 1, armed := false }) p
    let pulled := { cleared with
      events := cleared.events ++ if s.cfg.sinks.inputAvailable.get c then [.inputAvailable c true] else [] }
    let fired := if mode = 2#2 ∨ (mode = 1#2 ∧ (s.chan c).armed = true)
      then State.withSticky pulled (p ||| sticky c .rx) else pulled
    let t := { fired with result := some (.byte (s.chan c).rxLatch) }
    exec (.rd c) s = .next t ∧ exec (.rcRR8 c) s = .next { t with controlIndex := 0#4 }

/-! ### Lines and transport (R280 to R293) -/

/-- A line operation that changes no bit WR15 enables, or comes while WR1 bit 0 is clear, stores the new external-status
byte and does nothing else (R280 to R282). -/
def Obligations.MaskedLineChangeOnlyStores : Prop :=
  ∀ (c : Channel) (active : Bool) (s : State), s.irqLine = irqLevel s →
    let old := (s.chan c).rrs 0
    let new := fun bit : Byte => if active = s.cfg.extActiveSetsBit then old ||| bit else old &&& ~~~bit
    let masked := fun bit : Byte =>
      (old ^^^ new bit) &&& (s.chan c).wr 15 = 0#8 ∨ ((s.chan c).wr 1).getLsbD 0 = false
    (masked s.cfg.rr0Dcd →
      exec (.dcd c active) s = .next (s.updChan c fun ch => ch.setRrs 0 (new s.cfg.rr0Dcd))) ∧
    (masked s.cfg.rr0Cts →
      exec (.cts c active) s = .next (s.updChan c fun ch => ch.setRrs 0 (new s.cfg.rr0Cts)))

/-- A line operation that changes a bit WR15 enables, with WR1 bit 0 set, stores the byte, takes the snapshot, sets the
external/status sticky bit and brings the IRQ line up to date (R280 to R282, R301, R302). -/
def Obligations.EnabledLineChangeRaises : Prop :=
  ∀ (c : Channel) (active : Bool) (s : State), ((s.chan c).wr 1).getLsbD 0 = true →
    let old := (s.chan c).rrs 0
    let new := fun bit : Byte => if active = s.cfg.extActiveSetsBit then old ||| bit else old &&& ~~~bit
    let raised := fun bit : Byte => State.withSticky
      (s.updChan c fun ch => { ch.setRrs 0 (new bit) with
        statusLatchMask := ch.wr 15 &&& (s.cfg.rr0Dcd ||| s.cfg.rr0Cts ||| s.cfg.rr0Underrun)
        statusLatchValue := new bit })
      (s.rr3 ||| sticky c .ext)
    ((old ^^^ new s.cfg.rr0Dcd) &&& (s.chan c).wr 15 ≠ 0#8 →
      exec (.dcd c active) s = .next (raised s.cfg.rr0Dcd)) ∧
    ((old ^^^ new s.cfg.rr0Cts) &&& (s.chan c).wr 15 ≠ 0#8 →
      exec (.cts c active) s = .next (raised s.cfg.rr0Cts))

/-- `receive_byte` queues the byte, or drops it when the buffer is full, setting the overrun bit only if the report is
on (R290). -/
def Obligations.ReceiveByteQueuesOrDrops : Prop :=
  ∀ (c : Channel) (v : Byte) (s : State),
    let full := (s.chan c).rxBuffer.length = s.cfg.ringCap - 1
    (¬ full → exec (.rxb c v) s = .next (s.updChan c fun ch => { ch with rxBuffer := ch.rxBuffer ++ [v] })) ∧
    (full → s.cfg.rxOverrunReport = false → exec (.rxb c v) s = .next s) ∧
    (full → s.cfg.rxOverrunReport = true →
      exec (.rxb c v) s = .next (s.updChan c fun ch => ch.setRrs 1 (ch.rrs 1 ||| s.cfg.rr1Overrun)))

/-- `send_byte` gives the byte at the head of the transmit buffer and removes it, or the sentinel from an empty buffer
(R291). -/
def Obligations.SendByteTakesHeadOrSentinel : Prop :=
  ∀ (c : Channel) (s : State),
    ((s.chan c).txBuffer = [] →
      exec (.txb c) s = .next { s with result := some (.byte s.cfg.txEmptySentinel) }) ∧
    (∀ v rest, (s.chan c).txBuffer = v :: rest →
      exec (.txb c) s =
        .next { s.updChan c (fun ch => { ch with txBuffer := rest }) with result := some (.byte v) })

/-- The two queries look at the buffers only and change nothing (R292, R293). -/
def Obligations.BufferQueries : Prop :=
  ∀ (c : Channel) (s : State),
    exec (.ibf c) s = .next { s with
      result := some (.bool (decide ((s.chan c).rxBuffer.length = s.cfg.ringCap - 1))) } ∧
    exec (.obe c) s = .next { s with result := some (.bool (decide ((s.chan c).txBuffer.length = 0))) }

/-! ### Reset (R350 to R352) -/

/-- `reset`, under any configuration: registers, buffers, latches, flags, quotas, pointer and sticky register cleared;
the timing recomputed from the cleared registers; RTS and IRQ reported low, after the parameters (R350). -/
def Obligations.RstClearsTheChip : Prop :=
  ∀ s : State,
    let cleared := fun ch : ChannelState =>
      { ch with
        writeRegs := Vector.replicate 16 0#8
        readRegs := (Vector.replicate 16 0#8).set 1 s.cfg.rr1AllSent
        rxBuffer := []
        txBuffer := []
        rxdEmpty := true
        txdEmpty := true
        statusLatchMask := 0#8
        statusLatchValue := 0#8
        armed := false
        readQuota := 0
        writeQuota := 0 }
    let newA := (cleared s.chanA).retimed s.cfg .A
    let newB := (cleared s.chanB).retimed s.cfg .B
    exec .rst s = .next { s with
      controlIndex := 0#4
      rr3 := 0#8
      irqLine := false
      chanA := newA
      chanB := newB
      lifecycle := .running
      events := s.events ++ paramsEvents s.cfg .A s.chanA newA ++ paramsEvents s.cfg .B s.chanB newB
        ++ (if s.cfg.sinks.rts.a then [.rts .A false] else [])
        ++ (if s.cfg.sinks.rts.b then [.rts .B false] else [])
        ++ (if s.cfg.sinks.irq then [.irq false] else []) }

/-- The state after reset piece by piece, under the default `decode` (the table of R351). What reset does to the pointer,
the sticky register, the snapshot, the armed flag, the quotas and the timing is the spec's decision D10; the last two rows
rest on the default `decode` (PRESUMED, log entry 3). -/
def Obligations.RstUnderDefaultDecode : Prop :=
  ∀ s : State, s.cfg.decode = DecodeChoice.allDefault → ∃ t, exec .rst s = .next t ∧
    t.controlIndex = 0#4 ∧ t.rr3 = 0x00#8 ∧ t.irqLine = false ∧ t.cfg = s.cfg ∧
    ∀ c : Channel,
      (∀ i, (t.chan c).wr i = 0x00#8) ∧ (t.chan c).rrs 1 = s.cfg.rr1AllSent ∧
      (∀ i, i ≠ 1 → (t.chan c).rrs i = 0x00#8) ∧ (t.chan c).rxBuffer = [] ∧ (t.chan c).txBuffer = [] ∧
      (t.chan c).rxLatch = 0x00#8 ∧ (t.chan c).txLatch = 0x00#8 ∧
      (t.chan c).rxdEmpty = true ∧ (t.chan c).txdEmpty = true ∧
      (t.chan c).statusLatchMask = 0x00#8 ∧ (t.chan c).statusLatchValue = 0x00#8 ∧ (t.chan c).armed = false ∧
      (t.chan c).readQuota = 0 ∧ (t.chan c).writeQuota = 0 ∧
      (t.chan c).charClockDivisor = 16384 ∧ (t.chan c).charClockCounter = 16384 ∧
      (t.chan c).bps = 0 ∧ (t.chan c).parity = .none ∧ (t.chan c).bitsPerChar = 5 ∧ (t.chan c).stopBitsX2 = 0

/-- The first reset of a chip created under CFG_REF gives the state after reset, and the five events of R350's example
(R62, R352; that it is CFG_REF is the model's choice, log entry 1). -/
def Obligations.FirstResetGivesResetState : Prop :=
  exec .rst (State.created Cfg.ref) = .next { State.reset with
    events := [.paramsChanged .A 0 0 5 0, .paramsChanged .B 0 0 5 0, .rts .A false, .rts .B false, .irq false] }
end

