-- ==== Sys2Proof/Laws/State.lean ====
section
/-! SUPPORT. Laws/State.lean: the small lemmas of the state record: what each named update leaves in each field, and
reading a register after writing one. -/

namespace Sys2Proof.Machine

/-! ### Registers of a channel -/

/-- The spelling of a write-register read: `wr`. -/
@[simp] theorem writeRegs_get (ch : ChannelState) (i : RegNum) : ch.writeRegs.get i = ch.wr i := rfl

/-- The spelling of a stored-read-register read: `rrs`. -/
@[simp] theorem readRegs_get (ch : ChannelState) (i : RegNum) : ch.readRegs.get i = ch.rrs i := rfl

@[simp] theorem wr_mk (f0 : Vector Byte 16) (f1 : Vector Byte 16) (f2 : List Byte) (f3 : List Byte) (f4 : Bool) (f5 : Bool) (f6 : Nat) (f7 : Nat) (f8 : Nat) (f9 : Nat) (f10 : Byte) (f11 : Byte) (f12 : Bool) (f13 : Nat) (f14 : Parity) (f15 : Nat) (f16 : Nat) (i : RegNum) :
    (ChannelState.mk f0 f1 f2 f3 f4 f5 f6 f7 f8 f9 f10 f11 f12 f13 f14 f15 f16).wr i = f0.get i := rfl

@[simp] theorem rrs_mk (f0 : Vector Byte 16) (f1 : Vector Byte 16) (f2 : List Byte) (f3 : List Byte) (f4 : Bool) (f5 : Bool) (f6 : Nat) (f7 : Nat) (f8 : Nat) (f9 : Nat) (f10 : Byte) (f11 : Byte) (f12 : Bool) (f13 : Nat) (f14 : Parity) (f15 : Nat) (f16 : Nat) (i : RegNum) :
    (ChannelState.mk f0 f1 f2 f3 f4 f5 f6 f7 f8 f9 f10 f11 f12 f13 f14 f15 f16).rrs i = f1.get i := rfl

theorem vector_get_set (v : Vector Byte 16) (i j : RegNum) (x : Byte) :
    (v.set i.val x i.isLt).get j = if j = i then x else v.get j := by
  show (v.set i.val x i.isLt)[j.val] = if j = i then x else v[j.val]
  rw [Vector.getElem_set]
  simp only [Fin.ext_iff, eq_comm]

/-- Reading a write register after writing one (R24). -/
@[simp] theorem wr_setWr (ch : ChannelState) (i j : RegNum) (v : Byte) :
    (ch.setWr i v).wr j = if j = i then v else ch.wr j := vector_get_set _ _ _ _

/-- Reading a stored read register after writing one (R25). -/
@[simp] theorem rrs_setRrs (ch : ChannelState) (i j : RegNum) (v : Byte) :
    (ch.setRrs i v).rrs j = if j = i then v else ch.rrs j := vector_get_set _ _ _ _

@[simp] theorem rrs_setWr (ch : ChannelState) (i j : RegNum) (v : Byte) : (ch.setWr i v).rrs j = ch.rrs j := rfl

@[simp] theorem wr_setRrs (ch : ChannelState) (i j : RegNum) (v : Byte) : (ch.setRrs i v).wr j = ch.wr j := rfl

@[simp] theorem replicate_get (i : RegNum) (v : Byte) : (Vector.replicate 16 v).get i = v := by
  show (Vector.replicate 16 v)[i.val] = v
  simp

@[simp] theorem setWr_readRegs (ch : ChannelState) (i : RegNum) (v : Byte) : (ch.setWr i v).readRegs = ch.readRegs := rfl

@[simp] theorem setWr_rxBuffer (ch : ChannelState) (i : RegNum) (v : Byte) : (ch.setWr i v).rxBuffer = ch.rxBuffer := rfl

@[simp] theorem setWr_txBuffer (ch : ChannelState) (i : RegNum) (v : Byte) : (ch.setWr i v).txBuffer = ch.txBuffer := rfl

@[simp] theorem setWr_rxdEmpty (ch : ChannelState) (i : RegNum) (v : Byte) : (ch.setWr i v).rxdEmpty = ch.rxdEmpty := rfl

@[simp] theorem setWr_txdEmpty (ch : ChannelState) (i : RegNum) (v : Byte) : (ch.setWr i v).txdEmpty = ch.txdEmpty := rfl

@[simp] theorem setWr_charClockDivisor (ch : ChannelState) (i : RegNum) (v : Byte) : (ch.setWr i v).charClockDivisor = ch.charClockDivisor := rfl

@[simp] theorem setWr_charClockCounter (ch : ChannelState) (i : RegNum) (v : Byte) : (ch.setWr i v).charClockCounter = ch.charClockCounter := rfl

@[simp] theorem setWr_readQuota (ch : ChannelState) (i : RegNum) (v : Byte) : (ch.setWr i v).readQuota = ch.readQuota := rfl

@[simp] theorem setWr_writeQuota (ch : ChannelState) (i : RegNum) (v : Byte) : (ch.setWr i v).writeQuota = ch.writeQuota := rfl

@[simp] theorem setWr_statusLatchMask (ch : ChannelState) (i : RegNum) (v : Byte) : (ch.setWr i v).statusLatchMask = ch.statusLatchMask := rfl

@[simp] theorem setWr_statusLatchValue (ch : ChannelState) (i : RegNum) (v : Byte) : (ch.setWr i v).statusLatchValue = ch.statusLatchValue := rfl

@[simp] theorem setWr_armed (ch : ChannelState) (i : RegNum) (v : Byte) : (ch.setWr i v).armed = ch.armed := rfl

@[simp] theorem setWr_bps (ch : ChannelState) (i : RegNum) (v : Byte) : (ch.setWr i v).bps = ch.bps := rfl

@[simp] theorem setWr_parity (ch : ChannelState) (i : RegNum) (v : Byte) : (ch.setWr i v).parity = ch.parity := rfl

@[simp] theorem setWr_bitsPerChar (ch : ChannelState) (i : RegNum) (v : Byte) : (ch.setWr i v).bitsPerChar = ch.bitsPerChar := rfl

@[simp] theorem setWr_stopBitsX2 (ch : ChannelState) (i : RegNum) (v : Byte) : (ch.setWr i v).stopBitsX2 = ch.stopBitsX2 := rfl

@[simp] theorem setRrs_writeRegs (ch : ChannelState) (i : RegNum) (v : Byte) : (ch.setRrs i v).writeRegs = ch.writeRegs := rfl

@[simp] theorem setRrs_rxBuffer (ch : ChannelState) (i : RegNum) (v : Byte) : (ch.setRrs i v).rxBuffer = ch.rxBuffer := rfl

@[simp] theorem setRrs_txBuffer (ch : ChannelState) (i : RegNum) (v : Byte) : (ch.setRrs i v).txBuffer = ch.txBuffer := rfl

@[simp] theorem setRrs_rxdEmpty (ch : ChannelState) (i : RegNum) (v : Byte) : (ch.setRrs i v).rxdEmpty = ch.rxdEmpty := rfl

@[simp] theorem setRrs_txdEmpty (ch : ChannelState) (i : RegNum) (v : Byte) : (ch.setRrs i v).txdEmpty = ch.txdEmpty := rfl

@[simp] theorem setRrs_charClockDivisor (ch : ChannelState) (i : RegNum) (v : Byte) : (ch.setRrs i v).charClockDivisor = ch.charClockDivisor := rfl

@[simp] theorem setRrs_charClockCounter (ch : ChannelState) (i : RegNum) (v : Byte) : (ch.setRrs i v).charClockCounter = ch.charClockCounter := rfl

@[simp] theorem setRrs_readQuota (ch : ChannelState) (i : RegNum) (v : Byte) : (ch.setRrs i v).readQuota = ch.readQuota := rfl

@[simp] theorem setRrs_writeQuota (ch : ChannelState) (i : RegNum) (v : Byte) : (ch.setRrs i v).writeQuota = ch.writeQuota := rfl

@[simp] theorem setRrs_statusLatchMask (ch : ChannelState) (i : RegNum) (v : Byte) : (ch.setRrs i v).statusLatchMask = ch.statusLatchMask := rfl

@[simp] theorem setRrs_statusLatchValue (ch : ChannelState) (i : RegNum) (v : Byte) : (ch.setRrs i v).statusLatchValue = ch.statusLatchValue := rfl

@[simp] theorem setRrs_armed (ch : ChannelState) (i : RegNum) (v : Byte) : (ch.setRrs i v).armed = ch.armed := rfl

@[simp] theorem setRrs_bps (ch : ChannelState) (i : RegNum) (v : Byte) : (ch.setRrs i v).bps = ch.bps := rfl

@[simp] theorem setRrs_parity (ch : ChannelState) (i : RegNum) (v : Byte) : (ch.setRrs i v).parity = ch.parity := rfl

@[simp] theorem setRrs_bitsPerChar (ch : ChannelState) (i : RegNum) (v : Byte) : (ch.setRrs i v).bitsPerChar = ch.bitsPerChar := rfl

@[simp] theorem setRrs_stopBitsX2 (ch : ChannelState) (i : RegNum) (v : Byte) : (ch.setRrs i v).stopBitsX2 = ch.stopBitsX2 := rfl

/-! ### Channels of the state -/

@[simp] theorem setChan_cfg (s : State) (c : Channel) (ch : ChannelState) : (s.setChan c ch).cfg = s.cfg := by
  cases c <;> rfl

@[simp] theorem updChan_cfg (s : State) (c : Channel) (g : ChannelState → ChannelState) : (s.updChan c g).cfg = s.cfg :=
  setChan_cfg s c _

@[simp] theorem setChan_controlIndex (s : State) (c : Channel) (ch : ChannelState) : (s.setChan c ch).controlIndex = s.controlIndex := by
  cases c <;> rfl

@[simp] theorem updChan_controlIndex (s : State) (c : Channel) (g : ChannelState → ChannelState) : (s.updChan c g).controlIndex = s.controlIndex :=
  setChan_controlIndex s c _

@[simp] theorem setChan_rr3 (s : State) (c : Channel) (ch : ChannelState) : (s.setChan c ch).rr3 = s.rr3 := by
  cases c <;> rfl

@[simp] theorem updChan_rr3 (s : State) (c : Channel) (g : ChannelState → ChannelState) : (s.updChan c g).rr3 = s.rr3 :=
  setChan_rr3 s c _

@[simp] theorem setChan_irqLine (s : State) (c : Channel) (ch : ChannelState) : (s.setChan c ch).irqLine = s.irqLine := by
  cases c <;> rfl

@[simp] theorem updChan_irqLine (s : State) (c : Channel) (g : ChannelState → ChannelState) : (s.updChan c g).irqLine = s.irqLine :=
  setChan_irqLine s c _

@[simp] theorem setChan_lifecycle (s : State) (c : Channel) (ch : ChannelState) : (s.setChan c ch).lifecycle = s.lifecycle := by
  cases c <;> rfl

@[simp] theorem updChan_lifecycle (s : State) (c : Channel) (g : ChannelState → ChannelState) : (s.updChan c g).lifecycle = s.lifecycle :=
  setChan_lifecycle s c _

@[simp] theorem setChan_inbox (s : State) (c : Channel) (ch : ChannelState) : (s.setChan c ch).inbox = s.inbox := by
  cases c <;> rfl

@[simp] theorem updChan_inbox (s : State) (c : Channel) (g : ChannelState → ChannelState) : (s.updChan c g).inbox = s.inbox :=
  setChan_inbox s c _

@[simp] theorem setChan_events (s : State) (c : Channel) (ch : ChannelState) : (s.setChan c ch).events = s.events := by
  cases c <;> rfl

@[simp] theorem updChan_events (s : State) (c : Channel) (g : ChannelState → ChannelState) : (s.updChan c g).events = s.events :=
  setChan_events s c _

@[simp] theorem setChan_result (s : State) (c : Channel) (ch : ChannelState) : (s.setChan c ch).result = s.result := by
  cases c <;> rfl

@[simp] theorem updChan_result (s : State) (c : Channel) (g : ChannelState → ChannelState) : (s.updChan c g).result = s.result :=
  setChan_result s c _

@[simp] theorem chan_setChan (s : State) (c : Channel) (ch : ChannelState) : (s.setChan c ch).chan c = ch := by
  cases c <;> rfl

@[simp] theorem chan_updChan (s : State) (c : Channel) (g : ChannelState → ChannelState) :
    (s.updChan c g).chan c = g (s.chan c) := chan_setChan s c _

/-- A channel update leaves the other channel alone. -/
@[simp] theorem chan_other_setChan (s : State) (c : Channel) (ch : ChannelState) :
    (s.setChan c ch).chan (otherChannel c) = s.chan (otherChannel c) := by
  cases c <;> rfl

@[simp] theorem chan_other_updChan (s : State) (c : Channel) (g : ChannelState → ChannelState) :
    (s.updChan c g).chan (otherChannel c) = s.chan (otherChannel c) := chan_other_setChan s c _

/-- Reading channel `d` after updating channel `c`. -/
theorem chan_updChan_ite (s : State) (c d : Channel) (g : ChannelState → ChannelState) :
    (s.updChan c g).chan d = if d = c then g (s.chan d) else s.chan d := by
  cases c <;> cases d <;> rfl

@[simp] theorem updChan_A (s : State) (g : ChannelState → ChannelState) :
    s.updChan .A g = { s with chanA := g s.chanA } := rfl

@[simp] theorem updChan_B (s : State) (g : ChannelState → ChannelState) :
    s.updChan .B g = { s with chanB := g s.chanB } := rfl

@[simp] theorem chan_A (s : State) : s.chan .A = s.chanA := rfl

@[simp] theorem chan_B (s : State) : s.chan .B = s.chanB := rfl

/-- Two updates of one channel are one. -/
@[simp] theorem updChan_updChan (s : State) (c : Channel) (g h : ChannelState → ChannelState) :
    (s.updChan c g).updChan c h = s.updChan c (fun ch => h (g ch)) := by
  cases c <;> rfl

/-- Updates of the two channels do not interfere. -/
theorem updChan_comm (s : State) (c : Channel) (g h : ChannelState → ChannelState) :
    (s.updChan c g).updChan (otherChannel c) h = (s.updChan (otherChannel c) h).updChan c g := by
  cases c <;> rfl

/-! ### Events -/

@[simp] theorem emit_cfg (e : Event) (s : State) : (emit e s).cfg = s.cfg := by
  unfold emit; split <;> rfl

@[simp] theorem emit_controlIndex (e : Event) (s : State) : (emit e s).controlIndex = s.controlIndex := by
  unfold emit; split <;> rfl

@[simp] theorem emit_rr3 (e : Event) (s : State) : (emit e s).rr3 = s.rr3 := by
  unfold emit; split <;> rfl

@[simp] theorem emit_irqLine (e : Event) (s : State) : (emit e s).irqLine = s.irqLine := by
  unfold emit; split <;> rfl

@[simp] theorem emit_chanA (e : Event) (s : State) : (emit e s).chanA = s.chanA := by
  unfold emit; split <;> rfl

@[simp] theorem emit_chanB (e : Event) (s : State) : (emit e s).chanB = s.chanB := by
  unfold emit; split <;> rfl

@[simp] theorem emit_lifecycle (e : Event) (s : State) : (emit e s).lifecycle = s.lifecycle := by
  unfold emit; split <;> rfl

@[simp] theorem emit_inbox (e : Event) (s : State) : (emit e s).inbox = s.inbox := by
  unfold emit; split <;> rfl

@[simp] theorem emit_result (e : Event) (s : State) : (emit e s).result = s.result := by
  unfold emit; split <;> rfl

@[simp] theorem emit_chan (e : Event) (s : State) (c : Channel) : (emit e s).chan c = s.chan c := by
  cases c <;> simp

/-- The events after emitting one (R9). -/
theorem emit_events (e : Event) (s : State) :
    (emit e s).events = s.events ++ (if sinkPresent s.cfg e then [e] else []) := by
  unfold emit; split <;> simp

/-- Emitting changes the event list alone (R9). -/
theorem emit_eq (e : Event) (s : State) :
    emit e s = { s with events := s.events ++ (if sinkPresent s.cfg e then [e] else []) } := by
  unfold emit; split <;> simp

@[simp] theorem emit_mie (e : Event) (s : State) : (emit e s).mie = s.mie := by
  simp [State.mie]

/-! ### The sticky register and the timing as one update each -/

@[simp] theorem withSticky_cfg (s : State) (p : Byte) : (s.withSticky p).cfg = s.cfg := rfl

@[simp] theorem withSticky_controlIndex (s : State) (p : Byte) : (s.withSticky p).controlIndex = s.controlIndex := rfl

@[simp] theorem withSticky_chanA (s : State) (p : Byte) : (s.withSticky p).chanA = s.chanA := rfl

@[simp] theorem withSticky_chanB (s : State) (p : Byte) : (s.withSticky p).chanB = s.chanB := rfl

@[simp] theorem withSticky_lifecycle (s : State) (p : Byte) : (s.withSticky p).lifecycle = s.lifecycle := rfl

@[simp] theorem withSticky_inbox (s : State) (p : Byte) : (s.withSticky p).inbox = s.inbox := rfl

@[simp] theorem withSticky_result (s : State) (p : Byte) : (s.withSticky p).result = s.result := rfl

@[simp] theorem withSticky_rr3 (s : State) (p : Byte) : (s.withSticky p).rr3 = p := rfl

@[simp] theorem withSticky_irqLine (s : State) (p : Byte) : (s.withSticky p).irqLine = (s.mie && p != 0#8) := rfl

theorem withSticky_events (s : State) (p : Byte) :
    (s.withSticky p).events = s.events ++ irqEvents s.cfg s.irqLine (s.mie && p != 0#8) := rfl

@[simp] theorem withSticky_chan (s : State) (p : Byte) (c : Channel) : (s.withSticky p).chan c = s.chan c := by
  cases c <;> rfl

@[simp] theorem withSticky_mie (s : State) (p : Byte) : (s.withSticky p).mie = s.mie := rfl

@[simp] theorem retimed_cfg (s : State) (c : Channel) : (s.retimed c).cfg = s.cfg := by
  cases c <;> rfl

@[simp] theorem retimed_controlIndex (s : State) (c : Channel) : (s.retimed c).controlIndex = s.controlIndex := by
  cases c <;> rfl

@[simp] theorem retimed_rr3 (s : State) (c : Channel) : (s.retimed c).rr3 = s.rr3 := by
  cases c <;> rfl

@[simp] theorem retimed_irqLine (s : State) (c : Channel) : (s.retimed c).irqLine = s.irqLine := by
  cases c <;> rfl

@[simp] theorem retimed_lifecycle (s : State) (c : Channel) : (s.retimed c).lifecycle = s.lifecycle := by
  cases c <;> rfl

@[simp] theorem retimed_inbox (s : State) (c : Channel) : (s.retimed c).inbox = s.inbox := by
  cases c <;> rfl

@[simp] theorem retimed_result (s : State) (c : Channel) : (s.retimed c).result = s.result := by
  cases c <;> rfl

@[simp] theorem retimed_chan (s : State) (c : Channel) : (s.retimed c).chan c = (s.chan c).retimed s.cfg c := by
  cases c <;> rfl

@[simp] theorem retimed_chan_other (s : State) (c : Channel) :
    (s.retimed c).chan (otherChannel c) = s.chan (otherChannel c) := by
  cases c <;> rfl

@[simp] theorem channel_retimed_wr (cfg : Cfg) (c : Channel) (ch : ChannelState) (i : RegNum) :
    (ch.retimed cfg c).wr i = ch.wr i := rfl

@[simp] theorem channel_retimed_rrs (cfg : Cfg) (c : Channel) (ch : ChannelState) (i : RegNum) :
    (ch.retimed cfg c).rrs i = ch.rrs i := rfl

@[simp] theorem retimedFor_cfg (s : State) (c : Channel) (i : RegNum) : (s.retimedFor c i).cfg = s.cfg := by
  unfold State.retimedFor; split <;> simp

@[simp] theorem retimedFor_controlIndex (s : State) (c : Channel) (i : RegNum) : (s.retimedFor c i).controlIndex = s.controlIndex := by
  unfold State.retimedFor; split <;> simp

@[simp] theorem retimedFor_rr3 (s : State) (c : Channel) (i : RegNum) : (s.retimedFor c i).rr3 = s.rr3 := by
  unfold State.retimedFor; split <;> simp

@[simp] theorem retimedFor_irqLine (s : State) (c : Channel) (i : RegNum) : (s.retimedFor c i).irqLine = s.irqLine := by
  unfold State.retimedFor; split <;> simp

@[simp] theorem retimedFor_lifecycle (s : State) (c : Channel) (i : RegNum) : (s.retimedFor c i).lifecycle = s.lifecycle := by
  unfold State.retimedFor; split <;> simp

@[simp] theorem retimedFor_inbox (s : State) (c : Channel) (i : RegNum) : (s.retimedFor c i).inbox = s.inbox := by
  unfold State.retimedFor; split <;> simp

@[simp] theorem retimedFor_result (s : State) (c : Channel) (i : RegNum) : (s.retimedFor c i).result = s.result := by
  unfold State.retimedFor; split <;> simp

@[simp] theorem retimedFor_chan_other (s : State) (c : Channel) (i : RegNum) :
    (s.retimedFor c i).chan (otherChannel c) = s.chan (otherChannel c) := by
  unfold State.retimedFor; split <;> simp

/-- The record of the channel written: retimed, or as it was. -/
theorem retimedFor_chan (s : State) (c : Channel) (i : RegNum) :
    (s.retimedFor c i).chan c = if s.cfg.formatRegs.contains i then (s.chan c).retimed s.cfg c else s.chan c := by
  unfold State.retimedFor; split <;> simp

/-- The pointer takes no part in the recomputation. -/
theorem retimedFor_pointer (s : State) (c : Channel) (i : RegNum) (p : BitVec 4) :
    ({ s with controlIndex := p } : State).retimedFor c i = { s.retimedFor c i with controlIndex := p } := by
  unfold State.retimedFor; split <;> cases c <;> rfl

end Sys2Proof.Machine
end

