-- ==== Sys2Proof/Laws/Ops.lean ====
section
/-! SUPPORT. Laws/Ops.lean: for each shared operation of Machine/Ops.lean, what it can do, said once. -/

namespace Sys2Proof.Machine

/-! ### The condition engine -/

/-- `recompute_irq` brings the line to the level of the sticky register (R308). -/
theorem recomputeIrq_eq (s : State) : recomputeIrq s = s.withSticky s.rr3 := by
  unfold recomputeIrq State.withSticky irqEvents
  by_cases h : irqLevel s = s.irqLine
  · have h' : (s.mie && s.rr3 != 0#8) = s.irqLine := h
    rw [if_pos h, h']
    simp
  · have h' : ¬ s.irqLine = (s.mie && s.rr3 != 0#8) := fun e => h e.symm
    rw [if_neg h, if_neg h', emit_eq]
    rfl

/-- The line being up to date, `recompute_irq` does nothing. -/
theorem recomputeIrq_of_line {s : State} (h : s.irqLine = irqLevel s) : recomputeIrq s = s := by
  simp [recomputeIrq, h]

/-- Raising one class (R301): its sticky bit is set if WR1 enables it. -/
theorem raiseCondition_tx (c : Channel) (s : State) :
    raiseCondition c { tx := true } s =
      s.withSticky (s.rr3 ||| (if (s.chan c).txIntEnable then sticky c .tx else 0)) := by
  simp [raiseCondition, raisedBits, stickyMask, recomputeIrq_eq]
  rfl

theorem raiseCondition_rx (c : Channel) (s : State) :
    raiseCondition c { rx := true } s = s.withSticky (s.rr3 ||| sticky c .rx) := by
  simp [raiseCondition, raisedBits, stickyMask, recomputeIrq_eq]
  rfl

/-- Raising the external/status class when WR1 enables it: the snapshot is taken and the bit set (R301, R302). -/
theorem raiseCondition_ext_enabled (c : Channel) (s : State) (h : (s.chan c).extIntEnable = true) :
    raiseCondition c { ext := true } s =
      (captureStatusLatch c s).withSticky (s.rr3 ||| sticky c .ext) := by
  cases c <;> simp_all [raiseCondition, raisedBits, stickyMask, recomputeIrq_eq, captureStatusLatch] <;> rfl

/-- Raising it when WR1 does not: nothing is remembered, the line is recomputed (R301). -/
theorem raiseCondition_ext_disabled (c : Channel) (s : State) (h : (s.chan c).extIntEnable = false) :
    raiseCondition c { ext := true } s = s.withSticky s.rr3 := by
  simp [raiseCondition, raisedBits, stickyMask, recomputeIrq_eq, h]

/-- Clearing the transmit class (R306). -/
theorem clearCondition_tx (c : Channel) (s : State) :
    clearCondition c { tx := true } s = s.withSticky (s.rr3 &&& ~~~sticky c .tx) := by
  simp [clearCondition, stickyMask, recomputeIrq_eq]
  rfl

/-- Clearing the receive class (R306). -/
theorem clearCondition_rx (c : Channel) (s : State) :
    clearCondition c { rx := true } s = s.withSticky (s.rr3 &&& ~~~sticky c .rx) := by
  simp [clearCondition, stickyMask, recomputeIrq_eq]
  rfl

/-- Clearing the external/status class: the bit and the latch mask (R306). -/
theorem clearCondition_ext (c : Channel) (s : State) :
    clearCondition c { ext := true } s =
      (s.updChan c fun ch => { ch with statusLatchMask := 0#8 }).withSticky (s.rr3 &&& ~~~sticky c .ext) := by
  cases c <;> simp [clearCondition, stickyMask, recomputeIrq_eq] <;> rfl

/-- The receive trigger (R304): the channel is disarmed; the bit is set if the mode's trigger holds. -/
theorem rxTrigger_cases (c : Channel) (s : State) :
    (rxFires (s.chan c) = true ∧
      rxTrigger c s = (s.updChan c fun ch => { ch with armed := false }).withSticky (s.rr3 ||| sticky c .rx)) ∨
    (rxFires (s.chan c) = false ∧ rxTrigger c s = s.updChan c fun ch => { ch with armed := false }) := by
  unfold rxTrigger
  cases h : rxFires (s.chan c)
  · exact .inr ⟨rfl, by simp⟩
  · exact .inl ⟨rfl, by simp [raiseCondition_rx]⟩

/-! ### Timing -/

/-- `recompute_timing` is the one update `retimed` (R241). -/
theorem recomputeTiming_eq (c : Channel) (s : State) : recomputeTiming c s = s.retimed c := by
  by_cases h : ((s.chan c).retimed s.cfg c).params = (s.chan c).params
  · have h' := h
    simp only [ChannelState.params, ChannelState.retimed, Prod.mk.injEq] at h'
    obtain ⟨h1, h2, h3, h4⟩ := h'
    simp only [recomputeTiming, State.retimed, paramsEvents, if_pos h]
    cases c <;> simp_all [State.setChan, ChannelState.retimed]
  · simp only [recomputeTiming, State.retimed, paramsEvents, if_neg h]
    rw [if_neg (by exact h), emit_eq]
    cases c <;> rfl

/-- The end of a register write: the one update `retimedFor` (R241, P18). -/
theorem ifFormat_eq (c : Channel) (i : RegNum) (s : State) : ifFormat c i s = s.retimedFor c i := by
  rw [ifFormat, recomputeTiming_eq]
  rfl

/-! ### The data path -/

/-- What the receive check can do (R251, R252): nothing; under the policies `drop` and `overwrite`, take a byte that the
full latch loses or is lost to; or bring a byte to the latch. -/
theorem checkReceive_cases (c : Channel) (s : State) :
    checkReceive c s = s ∨
    (∃ v rest, (s.chan c).rxBuffer = v :: rest ∧ (s.chan c).readQuota ≠ 0 ∧ (s.chan c).rxEnable = true ∧
      (s.chan c).rxdEmpty = false ∧ s.cfg.latchFullPolicy = .drop ∧
      checkReceive c s = s.updChan c fun ch => { ch with rxBuffer := rest, readQuota := ch.readQuota - 1 }) ∨
    (∃ v rest, (s.chan c).rxBuffer = v :: rest ∧ (s.chan c).readQuota ≠ 0 ∧ (s.chan c).rxEnable = true ∧
      (s.chan c).rxdEmpty = false ∧ s.cfg.latchFullPolicy = .overwrite ∧
      checkReceive c s =
        s.updChan c fun ch => { ch.setRrs 8 v with rxBuffer := rest, readQuota := ch.readQuota - 1 }) ∨
    (∃ v rest, (s.chan c).rxBuffer = v :: rest ∧ (s.chan c).readQuota ≠ 0 ∧ (s.chan c).rxEnable = true ∧
      (s.chan c).rxdEmpty = true ∧
      checkReceive c s = rxTrigger c (emit (.inputAvailable c true) (s.updChan c fun ch =>
        { ch.setRrs 8 v with rxBuffer := rest, rxdEmpty := false, readQuota := ch.readQuota - 1 }))) := by
  unfold checkReceive
  split
  · exact .inl rfl
  · rename_i v rest hb
    by_cases hq : (s.chan c).readQuota = 0
    · exact .inl (by simp [hq])
    cases he : (s.chan c).rxEnable
    · exact .inl (by simp)
    cases hd : (s.chan c).rxdEmpty
    · cases hp : s.cfg.latchFullPolicy
      · exact .inl (by simp [latchFullPolicy, hp])
      · exact .inr (.inl ⟨v, rest, hb, hq, rfl, rfl, rfl, by simp [hq, latchFullPolicy, hp]⟩)
      · exact .inr (.inr (.inl ⟨v, rest, hb, hq, rfl, rfl, rfl, by simp [hq, latchFullPolicy, hp]⟩))
    · exact .inr (.inr (.inr ⟨v, rest, hb, hq, rfl, rfl, by simp [hq]⟩))

/-- What the underrun note can do (R254): nothing when the bit is set already; set it; set it and raise the
external/status condition. -/
theorem noteUnderrun_cases (c : Channel) (s : State) :
    ((s.chan c).rrs 0 &&& s.cfg.rr0Underrun ≠ 0#8 ∧ noteUnderrun c s = s) ∨
    ((s.chan c).rrs 0 &&& s.cfg.rr0Underrun = 0#8 ∧
      (s.cfg.underrunExtInt && (s.chan c).wr 15 &&& s.cfg.rr0Underrun != 0#8) = false ∧
      noteUnderrun c s = s.updChan c fun ch => ch.setRrs 0 (ch.rrs 0 ||| s.cfg.rr0Underrun)) ∨
    ((s.chan c).rrs 0 &&& s.cfg.rr0Underrun = 0#8 ∧
      (s.cfg.underrunExtInt && (s.chan c).wr 15 &&& s.cfg.rr0Underrun != 0#8) = true ∧
      noteUnderrun c s = raiseCondition c { ext := true }
        (s.updChan c fun ch => ch.setRrs 0 (ch.rrs 0 ||| s.cfg.rr0Underrun))) := by
  unfold noteUnderrun
  by_cases h : (s.chan c).rrs 0 &&& s.cfg.rr0Underrun = 0#8
  · cases h2 : (s.cfg.underrunExtInt && (s.chan c).wr 15 &&& s.cfg.rr0Underrun != 0#8)
    · exact .inr (.inl ⟨h, rfl, by simp [h]⟩)
    · exact .inr (.inr ⟨h, rfl, by simp [h]⟩)
  · exact .inl ⟨h, by simp [h]⟩

/-- What the transmit check can do (R253): nothing; note an underrun; send the byte in the latch. -/
theorem checkTransmit_cases (c : Channel) (s : State) :
    ((s.chan c).writeQuota = 0 ∨ ringFull s.cfg (s.chan c).txBuffer = true) ∧ checkTransmit c s = s ∨
    ((s.chan c).writeQuota ≠ 0 ∧ ringFull s.cfg (s.chan c).txBuffer = false ∧ (s.chan c).txdEmpty = true ∧
      checkTransmit c s = noteUnderrun c s) ∨
    ((s.chan c).writeQuota ≠ 0 ∧ ringFull s.cfg (s.chan c).txBuffer = false ∧ (s.chan c).txdEmpty = false ∧
      checkTransmit c s = raiseCondition c { tx := true } (emit (.outputByte c (s.chan c).txLatch)
        (s.updChan c fun ch =>
          { ch with txBuffer := ch.txBuffer ++ [ch.txLatch], txdEmpty := true, writeQuota := ch.writeQuota - 1 }))) := by
  unfold checkTransmit
  by_cases hq : (s.chan c).writeQuota = 0
  · exact .inl ⟨.inl hq, by simp [hq]⟩
  cases hf : ringFull s.cfg (s.chan c).txBuffer
  · cases hd : (s.chan c).txdEmpty
    · exact .inr (.inr ⟨hq, rfl, rfl, by simp [hq]⟩)
    · exact .inr (.inl ⟨hq, rfl, rfl, by simp [hq]⟩)
  · exact .inl ⟨.inr rfl, by simp⟩

/-! ### Line signals -/

/-- What a line change can do (R280): store the new external-status byte; and raise the external/status condition if a
bit that WR15 enables changed. -/
theorem setExternalStatus_cases (c : Channel) (bit : Byte) (active : Bool) (s : State) :
    let new := lineByte s.cfg bit ((s.chan c).rrs 0) active
    let moved := s.updChan c fun ch => ch.setRrs 0 new
    (((s.chan c).rrs 0 ^^^ new) &&& (s.chan c).wr 15 = 0#8 ∧ setExternalStatus c bit active s = moved) ∨
    (((s.chan c).rrs 0 ^^^ new) &&& (s.chan c).wr 15 ≠ 0#8 ∧
      setExternalStatus c bit active s = raiseCondition c { ext := true } moved) := by
  intro new moved
  unfold setExternalStatus
  by_cases h : ((s.chan c).rrs 0 ^^^ new) &&& (s.chan c).wr 15 = 0#8
  · exact .inl ⟨h, by simp only [new] at h; simp [h, moved, new]⟩
  · exact .inr ⟨h, by simp only [new] at h; simp [h, moved, new]⟩

/-- RTS is reported, whether or not it changed, and nothing else happens (R283). -/
theorem setRts_eq (c : Channel) (level : Bool) (s : State) :
    setRts c level s = { s with
      events := s.events ++ (if s.cfg.sinks.rts.get c then [.rts c level] else []) } := by
  rw [setRts, emit_eq]
  rfl

/-! ### The operations built on these -/

/-- A data write (R255): the byte in the latch, the transmit sticky bit cleared, the transmit check; then, as a write of
register 8, the timing if `FORMAT_REGS` holds 8. -/
theorem writeData_eq (c : Channel) (v : Byte) (s : State) :
    writeData c v s = (checkTransmit c (State.withSticky
      (s.updChan c fun ch => { ch.setWr 8 v with txdEmpty := false }) (s.rr3 &&& ~~~sticky c .tx))).retimedFor c 8 := by
  rw [writeData, ifFormat_eq, clearCondition_tx, updChan_rr3]

/-- A data read (R256): the latch marked empty, the receive sticky bit cleared, then the receive check. -/
theorem readData_eq (c : Channel) (s : State) :
    readData c s = checkReceive c (State.withSticky
      (s.updChan c fun ch => { ch with rxdEmpty := true }) (s.rr3 &&& ~~~sticky c .rx)) := by
  rw [readData, clearCondition_rx, updChan_rr3]

/-- What a channel does in an `advance` (R231): count down; or reload, grant the quotas, and make both checks. -/
theorem chnAdvance_cases (c : Channel) (n : Nat) (s : State) :
    (n < (s.chan c).charClockCounter ∧ chnAdvance c n s =
      s.updChan c fun ch => { ch with charClockCounter := ch.charClockCounter - n }) ∨
    ((s.chan c).charClockCounter ≤ n ∧ chnAdvance c n s =
      checkTransmit c (checkReceive c (s.updChan c fun ch => { ch with
        charClockCounter := ch.charClockDivisor - (n - ch.charClockCounter) % ch.charClockDivisor
        readQuota := s.cfg.multiR.get c
        writeQuota := s.cfg.multiW.get c }))) := by
  by_cases h : n < (s.chan c).charClockCounter
  · exact .inl ⟨h, by simp [chnAdvance, h]⟩
  · exact .inr ⟨Nat.le_of_not_lt h, by simp [chnAdvance, h]⟩

/-- A store that may be mirrored: one bank, or both (R186). -/
theorem storeShared_eq (c : Channel) (i : RegNum) (v : Byte) (s : State) :
    storeShared c i v s =
      if s.cfg.sharedWrMirror then
        { s with chanA := s.chanA.setWr i v, chanB := s.chanB.setWr i v, controlIndex := 0#4 }
      else { s.updChan c (fun ch => ch.setWr i v) with controlIndex := 0#4 } := by
  unfold storeShared
  split <;> cases c <;> rfl

end Sys2Proof.Machine
end

