-- ==== Sys2Proof/Laws/Frames.lean ====
section
/-! SUPPORT. Laws/Frames.lean: what the receive check, the transmit check and the sub-operations they call leave alone, said
once for all of them. -/

namespace Sys2Proof.Machine

/-- `t` comes from `s` by an operation on channel `c` that takes at most one byte from the head of its receive buffer, adds
at most one at the tail of its transmit buffer, sets sticky bits of its own and clears none, and leaves the rest alone but
for the latches, the emptiness flags, the external-status byte, the snapshot and the quotas. -/
structure OnlyRaises (c : Channel) (s t : State) : Prop where
  cfg : t.cfg = s.cfg
  inbox : t.inbox = s.inbox
  lifecycle : t.lifecycle = s.lifecycle
  controlIndex : t.controlIndex = s.controlIndex
  result : t.result = s.result
  otherChan : t.chan (otherChannel c) = s.chan (otherChannel c)
  writeRegs : (t.chan c).writeRegs = (s.chan c).writeRegs
  readRegs : ∀ i : RegNum, i ≠ 0 → i ≠ 8 → (t.chan c).rrs i = (s.chan c).rrs i
  rr0Grows : (s.chan c).rrs 0 &&& (t.chan c).rrs 0 = (s.chan c).rrs 0
  divisor : (t.chan c).charClockDivisor = (s.chan c).charClockDivisor
  params : (t.chan c).params = (s.chan c).params
  counter : (t.chan c).charClockCounter = (s.chan c).charClockCounter
  stickyGrows : s.rr3 &&& t.rr3 = s.rr3
  otherSticky : ∀ k, t.rr3 &&& sticky (otherChannel c) k = s.rr3 &&& sticky (otherChannel c) k
  topBits : t.rr3 &&& 0xC0#8 = s.rr3 &&& 0xC0#8
  armed : (t.chan c).armed = true → (s.chan c).armed = true
  irqLine : s.irqLine = irqLevel s → t.irqLine = irqLevel t
  rxBuffer : ∃ k, k ≤ 1 ∧ (t.chan c).rxBuffer = (s.chan c).rxBuffer.drop k
  txBuffer : ∃ l : List Byte, l.length ≤ 1 ∧ (t.chan c).txBuffer = (s.chan c).txBuffer ++ l
  events : ∃ l, t.events = s.events ++ l
  readQuota : (t.chan c).readQuota ≤ (s.chan c).readQuota
  writeQuota : (t.chan c).writeQuota ≤ (s.chan c).writeQuota
  txRoom : (s.chan c).txBuffer.length ≤ s.cfg.ringCap - 1 → (t.chan c).txBuffer.length ≤ s.cfg.ringCap - 1
  latchMask : (s.chan c).statusLatchMask &&& ~~~extMask s.cfg = 0#8 → (t.chan c).statusLatchMask &&& ~~~extMask s.cfg = 0#8
  rr0Mask : (s.chan c).rrs 0 &&& ~~~extMask s.cfg = 0#8 → (t.chan c).rrs 0 &&& ~~~extMask s.cfg = 0#8

theorem OnlyRaises.refl (c) (s : State) : OnlyRaises c s s := by
  refine ⟨rfl, rfl, rfl, rfl, rfl, rfl, rfl, fun _ _ _ => rfl, by simp, rfl, rfl, rfl, by simp, fun _ => rfl, rfl, id, id, ⟨0, by simp⟩, ⟨[], by simp⟩, ⟨[], by simp⟩, le_refl _, le_refl _, id, id, id⟩

theorem bits_trans {w} {a b c : BitVec w} (h1 : a &&& b = a) (h2 : b &&& c = b) : a &&& c = a := by
  rw [← h1, BitVec.and_assoc, h2]

theorem bits_or_self {w} (a b : BitVec w) : a &&& (a ||| b) = a := by ext i; simp; tauto

theorem sticky_or_other (c : Channel) (k k' : Cond) (x : Byte) : (x ||| sticky c k) &&& sticky (otherChannel c) k' = x &&& sticky (otherChannel c) k' := by
  have : sticky c k &&& sticky (otherChannel c) k' = 0#8 := by cases c <;> cases k <;> cases k' <;> rfl
  have h : (x ||| sticky c k) &&& sticky (otherChannel c) k' = (x &&& sticky (otherChannel c) k') ||| (sticky c k &&& sticky (otherChannel c) k') := by
    ext i; simp; cases x[i] <;> simp
  rw [h, this]; simp

theorem sticky_or_top (c : Channel) (k : Cond) (x : Byte) : (x ||| sticky c k) &&& 0xC0#8 = x &&& 0xC0#8 := by
  have : sticky c k &&& 0xC0#8 = 0#8 := by cases c <;> cases k <;> rfl
  have h : (x ||| sticky c k) &&& 0xC0#8 = (x &&& 0xC0#8) ||| (sticky c k &&& 0xC0#8) := by
    ext i hi; simp only [BitVec.getElem_and, BitVec.getElem_or]; cases x[i] <;> simp
  rw [h, this]; simp

theorem onlyRaises_sticky (c : Channel) (k : Cond) (s : State) : OnlyRaises c s (s.withSticky (s.rr3 ||| sticky c k)) where
  cfg := rfl
  inbox := rfl
  lifecycle := rfl
  controlIndex := rfl
  result := rfl
  otherChan := by simp
  writeRegs := by simp
  readRegs := by simp
  rr0Grows := by simp
  divisor := by simp
  params := by simp
  counter := by simp
  stickyGrows := bits_or_self _ _
  otherSticky := fun k' => sticky_or_other _ _ _ _
  topBits := sticky_or_top _ _ _
  armed := by simp
  irqLine := fun _ => rfl
  rxBuffer := ⟨0, by simp⟩
  txBuffer := ⟨[], by simp⟩
  events := ⟨_, rfl⟩
  readQuota := by simp
  writeQuota := by simp
  txRoom := by simp
  latchMask := by simp
  rr0Mask := by simp

theorem onlyRaises_recompute (c : Channel) (s : State) : OnlyRaises c s (s.withSticky s.rr3) where
  cfg := rfl
  inbox := rfl
  lifecycle := rfl
  controlIndex := rfl
  result := rfl
  otherChan := by simp
  writeRegs := by simp
  readRegs := by simp
  rr0Grows := by simp
  divisor := by simp
  params := by simp
  counter := by simp
  stickyGrows := by simp
  otherSticky := fun k' => rfl
  topBits := rfl
  armed := by simp
  irqLine := fun _ => rfl
  rxBuffer := ⟨0, by simp⟩
  txBuffer := ⟨[], by simp⟩
  events := ⟨_, rfl⟩
  readQuota := by simp
  writeQuota := by simp
  txRoom := by simp
  latchMask := by simp
  rr0Mask := by simp

/-- Two in a row, if each buffer is left alone by one of the two. -/
theorem OnlyRaises.trans {c s t u} (h1 : OnlyRaises c s t) (h2 : OnlyRaises c t u)
    (hrx : (t.chan c).rxBuffer = (s.chan c).rxBuffer ∨ (u.chan c).rxBuffer = (t.chan c).rxBuffer)
    (htx : (t.chan c).txBuffer = (s.chan c).txBuffer ∨ (u.chan c).txBuffer = (t.chan c).txBuffer) : OnlyRaises c s u where
  cfg := h2.cfg.trans h1.cfg
  inbox := h2.inbox.trans h1.inbox
  lifecycle := h2.lifecycle.trans h1.lifecycle
  controlIndex := h2.controlIndex.trans h1.controlIndex
  result := h2.result.trans h1.result
  otherChan := h2.otherChan.trans h1.otherChan
  writeRegs := h2.writeRegs.trans h1.writeRegs
  readRegs := fun i a b => (h2.readRegs i a b).trans (h1.readRegs i a b)
  rr0Grows := bits_trans h1.rr0Grows h2.rr0Grows
  divisor := h2.divisor.trans h1.divisor
  params := h2.params.trans h1.params
  counter := h2.counter.trans h1.counter
  stickyGrows := bits_trans h1.stickyGrows h2.stickyGrows
  otherSticky := fun k => (h2.otherSticky k).trans (h1.otherSticky k)
  topBits := h2.topBits.trans h1.topBits
  armed := fun h => h1.armed (h2.armed h)
  irqLine := fun h => h2.irqLine (h1.irqLine h)
  rxBuffer := by
    rcases hrx with h | h
    · rw [← h]; exact h2.rxBuffer
    · rw [h]; exact h1.rxBuffer
  txBuffer := by
    rcases htx with h | h
    · rw [← h]; exact h2.txBuffer
    · rw [h]; exact h1.txBuffer
  events := by
    obtain ⟨a, ha⟩ := h1.events; obtain ⟨b, hb⟩ := h2.events
    exact ⟨a ++ b, by rw [hb, ha, List.append_assoc]⟩
  readQuota := h2.readQuota.trans h1.readQuota
  writeQuota := h2.writeQuota.trans h1.writeQuota
  txRoom := fun h => by have := h2.txRoom (by rw [h1.cfg]; exact h1.txRoom h); rwa [h1.cfg] at this
  latchMask := fun h => by have := h2.latchMask (by rw [h1.cfg]; exact h1.latchMask h); rwa [h1.cfg] at this
  rr0Mask := fun h => by have := h2.rr0Mask (by rw [h1.cfg]; exact h1.rr0Mask h); rwa [h1.cfg] at this

theorem and_mask_clear (a m : Byte) : (a &&& m) &&& ~~~m = 0#8 := by ext i; simp

theorem or_mask_clear (a b m : Byte) (h : a &&& ~~~m = 0#8) (h2 : b &&& ~~~m = 0#8) : (a ||| b) &&& ~~~m = 0#8 := by
  have : (a ||| b) &&& ~~~m = (a &&& ~~~m) ||| (b &&& ~~~m) := by ext i; simp; cases a[i] <;> simp
  rw [this, h, h2]; rfl

theorem underrun_subset_extMask (cfg : Cfg) : cfg.rr0Underrun &&& ~~~extMask cfg = 0#8 := by ext i; simp [extMask]; tauto

theorem onlyRaises_captureStatusLatch (c : Channel) (s : State) : OnlyRaises c s (captureStatusLatch c s) where
  cfg := by simp [captureStatusLatch]
  inbox := by simp [captureStatusLatch]
  lifecycle := by simp [captureStatusLatch]
  controlIndex := by simp [captureStatusLatch]
  result := by simp [captureStatusLatch]
  otherChan := by simp [captureStatusLatch]
  writeRegs := by simp [captureStatusLatch]
  readRegs := by simp [captureStatusLatch]
  rr0Grows := by simp [captureStatusLatch]
  divisor := by simp [captureStatusLatch]
  params := by simp [captureStatusLatch, ChannelState.params]
  counter := by simp [captureStatusLatch]
  stickyGrows := by simp [captureStatusLatch]
  otherSticky := by simp [captureStatusLatch]
  topBits := by simp [captureStatusLatch]
  armed := by simp [captureStatusLatch]
  irqLine := by cases c <;> simp [captureStatusLatch, irqLevel, State.mie]
  rxBuffer := ⟨0, by simp [captureStatusLatch]⟩
  txBuffer := ⟨[], by simp [captureStatusLatch]⟩
  events := ⟨[], by simp [captureStatusLatch]⟩
  readQuota := by simp [captureStatusLatch]
  writeQuota := by simp [captureStatusLatch]
  txRoom := by simp [captureStatusLatch]
  latchMask := by simp [captureStatusLatch, and_mask_clear]
  rr0Mask := by simp [captureStatusLatch]

theorem onlyRaises_raise_ext (c : Channel) (s : State) : OnlyRaises c s (raiseCondition c { ext := true } s) := by
  cases h : (s.chan c).extIntEnable
  · rw [raiseCondition_ext_disabled c s h]; exact onlyRaises_recompute c s
  · rw [raiseCondition_ext_enabled c s h]
    have := onlyRaises_sticky c .ext (captureStatusLatch c s)
    have e : (captureStatusLatch c s).rr3 = s.rr3 := by simp [captureStatusLatch]
    rw [e] at this
    exact (onlyRaises_captureStatusLatch c s).trans this (.inr (by simp)) (.inr (by simp))

theorem onlyRaises_raise_tx (c : Channel) (s : State) : OnlyRaises c s (raiseCondition c { tx := true } s) := by
  rw [raiseCondition_tx]
  cases h : (s.chan c).txIntEnable
  · have := onlyRaises_recompute c s; simpa using this
  · have := onlyRaises_sticky c .tx s; simpa using this

theorem raise_ext_buffers (c : Channel) (s : State) : ((raiseCondition c { ext := true } s).chan c).rxBuffer = (s.chan c).rxBuffer ∧ ((raiseCondition c { ext := true } s).chan c).txBuffer = (s.chan c).txBuffer := by
  cases h : (s.chan c).extIntEnable
  · rw [raiseCondition_ext_disabled c s h]; simp
  · rw [raiseCondition_ext_enabled c s h]; simp [captureStatusLatch]

theorem onlyRaises_noteUnderrun (c : Channel) (s : State) : OnlyRaises c s (noteUnderrun c s) := by
  have h0 : OnlyRaises c s (s.updChan c fun ch => ch.setRrs 0 (ch.rrs 0 ||| s.cfg.rr0Underrun)) := by
    refine ⟨by simp, by simp, by simp, by simp, by simp, by simp, by simp, ?_, ?_, by simp, by simp [ChannelState.params], by simp, by simp, by simp, by simp, by simp, ?_, ⟨0, by simp⟩, ⟨[], by simp⟩, ⟨[], by simp⟩, by simp, by simp, by simp, by simp, ?_⟩
    · intro i h1 h2; simp [h1]
    · simp [bits_or_self]
    · cases c <;> simp [irqLevel, State.mie]
    · intro h; simp; exact or_mask_clear _ _ _ h (underrun_subset_extMask _)
  rcases noteUnderrun_cases c s with ⟨_, h⟩ | ⟨_, _, h⟩ | ⟨_, _, h⟩ <;> rw [h]
  · exact OnlyRaises.refl c s
  · exact h0
  · exact h0.trans (onlyRaises_raise_ext c _) (.inl (by simp)) (.inl (by simp))

theorem noteUnderrun_buffers (c : Channel) (s : State) : ((noteUnderrun c s).chan c).rxBuffer = (s.chan c).rxBuffer ∧ ((noteUnderrun c s).chan c).txBuffer = (s.chan c).txBuffer := by
  rcases noteUnderrun_cases c s with ⟨_, h⟩ | ⟨_, _, h⟩ | ⟨_, _, h⟩ <;> rw [h] 
  · simp
  · simp
  · rw [(raise_ext_buffers c _).1, (raise_ext_buffers c _).2]; simp

theorem onlyRaises_emit (c : Channel) (e : Event) (s : State) : OnlyRaises c s (emit e s) := by
  rw [emit_eq]
  refine ⟨rfl, rfl, rfl, rfl, rfl, by cases c <;> rfl, by cases c <;> rfl, by cases c <;> exact fun _ _ _ => rfl, by cases c <;> simp, by cases c <;> rfl, by cases c <;> rfl, by cases c <;> rfl, by simp, fun _ => rfl, rfl, by cases c <;> exact id, fun h => h, ⟨0, by cases c <;> simp⟩, ⟨[], by cases c <;> simp⟩, ⟨_, rfl⟩, by cases c <;> simp, by cases c <;> simp, by cases c <;> simp, by cases c <;> simp, by cases c <;> simp⟩

theorem onlyRaises_checkTransmit (c : Channel) (s : State) : OnlyRaises c s (checkTransmit c s) := by
  rcases checkTransmit_cases c s with ⟨_, h⟩ | ⟨_, _, _, h⟩ | ⟨hq, hf, _, h⟩ <;> rw [h]
  · exact OnlyRaises.refl c s
  · exact onlyRaises_noteUnderrun c s
  · set s1 := (s.updChan c fun ch => { ch with txBuffer := ch.txBuffer ++ [ch.txLatch], txdEmpty := true, writeQuota := ch.writeQuota - 1 }) with hs1
    have h0 : OnlyRaises c s s1 := by
      rw [hs1]
      refine ⟨by simp, by simp, by simp, by simp, by simp, by simp, by simp, by simp, by simp, by simp, by simp [ChannelState.params], by simp, by simp, by simp, by simp, by simp, ?_, ⟨0, by simp⟩, ⟨[(s.chan c).txLatch], by simp⟩, ⟨[], by simp⟩, by simp, by simp, ?_, by simp, by simp⟩
      · cases c <;> simp [irqLevel, State.mie]
      · simp [ringFull] at hf ⊢; omega
    exact (h0.trans (onlyRaises_emit c _ s1) (.inr (by simp)) (.inr (by simp))).trans (onlyRaises_raise_tx c _) (.inr (by rw [raiseCondition_tx]; simp)) (.inr (by rw [raiseCondition_tx]; simp))

theorem checkTransmit_rxBuffer (c : Channel) (s : State) : ((checkTransmit c s).chan c).rxBuffer = (s.chan c).rxBuffer := by
  rcases checkTransmit_cases c s with ⟨_, h⟩ | ⟨_, _, _, h⟩ | ⟨hq, hf, _, h⟩ <;> rw [h]
  · exact (noteUnderrun_buffers c s).1
  · rw [raiseCondition_tx]; simp

theorem onlyRaises_rxTrigger (c : Channel) (s : State) : OnlyRaises c s (rxTrigger c s) := by
  have h0 : OnlyRaises c s (s.updChan c fun ch => { ch with armed := false }) := by
    refine ⟨by simp, by simp, by simp, by simp, by simp, by simp, by simp, by simp, by simp, by simp, by simp [ChannelState.params], by simp, by simp, by simp, by simp, by simp, ?_, ⟨0, by simp⟩, ⟨[], by simp⟩, ⟨[], by simp⟩, by simp, by simp, by simp, by simp, by simp⟩
    cases c <;> simp [irqLevel, State.mie]
  rcases rxTrigger_cases c s with ⟨_, h⟩ | ⟨_, h⟩ <;> rw [h]
  · have := onlyRaises_sticky c .rx (s.updChan c fun ch => { ch with armed := false })
    rw [updChan_rr3] at this
    exact h0.trans this (.inr (by simp)) (.inr (by simp))
  · exact h0

theorem rxTrigger_buffers (c : Channel) (s : State) : ((rxTrigger c s).chan c).rxBuffer = (s.chan c).rxBuffer ∧ ((rxTrigger c s).chan c).txBuffer = (s.chan c).txBuffer := by
  rcases rxTrigger_cases c s with ⟨_, h⟩ | ⟨_, h⟩ <;> rw [h] <;> simp

theorem onlyRaises_checkReceive (c : Channel) (s : State) : OnlyRaises c s (checkReceive c s) := by
  rcases checkReceive_cases c s with h | ⟨v, rest, hb, hq, he, hd, hp, h⟩ | ⟨v, rest, hb, hq, he, hd, hp, h⟩ | ⟨v, rest, hb, hq, he, hd, h⟩ <;> rw [h]
  · exact OnlyRaises.refl c s
  · refine ⟨by simp, by simp, by simp, by simp, by simp, by simp, by simp, by simp, by simp, by simp, by simp [ChannelState.params], by simp, by simp, by simp, by simp, by simp, ?_, ⟨1, by simp [hb]⟩, ⟨[], by simp⟩, ⟨[], by simp⟩, by simp, by simp, by simp, by simp, by simp⟩
    cases c <;> simp [irqLevel, State.mie]
  · refine ⟨by simp, by simp, by simp, by simp, by simp, by simp, by simp, ?_, by simp, by simp, by simp [ChannelState.params], by simp, by simp, by simp, by simp, by simp, ?_, ⟨1, by simp [hb]⟩, ⟨[], by simp⟩, ⟨[], by simp⟩, by simp, by simp, by simp, by simp, by simp⟩
    · intro i h1 h2; simp [h2]
    · cases c <;> simp [irqLevel, State.mie]
  · set s1 := (s.updChan c fun ch => { ch.setRrs 8 v with rxBuffer := rest, rxdEmpty := false, readQuota := ch.readQuota - 1 }) with hs1
    have h0 : OnlyRaises c s s1 := by
      rw [hs1]
      refine ⟨by simp, by simp, by simp, by simp, by simp, by simp, by simp, ?_, by simp, by simp, by simp [ChannelState.params], by simp, by simp, by simp, by simp, by simp, ?_, ⟨1, by simp [hb]⟩, ⟨[], by simp⟩, ⟨[], by simp⟩, by simp, by simp, by simp, by simp, by simp⟩
      · intro i h1 h2; simp [h2]
      · cases c <;> simp [irqLevel, State.mie]
    exact (h0.trans (onlyRaises_emit c _ s1) (.inr (by simp)) (.inr (by simp))).trans (onlyRaises_rxTrigger c _) (.inr (rxTrigger_buffers c _).1) (.inr (rxTrigger_buffers c _).2)

theorem checkReceive_txBuffer (c : Channel) (s : State) : ((checkReceive c s).chan c).txBuffer = (s.chan c).txBuffer := by
  rcases checkReceive_cases c s with h | ⟨v, rest, hb, hq, he, hd, hp, h⟩ | ⟨v, rest, hb, hq, he, hd, hp, h⟩ | ⟨v, rest, hb, hq, he, hd, h⟩ <;> rw [h]
  · simp
  · simp
  · rw [(rxTrigger_buffers c _).2]; simp

end Sys2Proof.Machine
end

