-- ==== Sys2Proof/Laws/PerInstr.lean ====
section
/-! SUPPORT. Laws/PerInstr.lean: statements about an instruction as syntax, one lemma per constructor. -/

namespace Sys2Proof.Laws

/-- What an instruction encodes to is an operation of R111. -/
def EncodeWellFormed.Statement : Instr → Prop := fun i => (encode i).wellFormed = true

theorem EncodeWellFormed.wc0Null (c : Channel) (rsv : BitVec 2) (ptr : BitVec 3) : EncodeWellFormed.Statement (.wc0Null c rsv ptr) := rfl

theorem EncodeWellFormed.wc0PointHigh (c : Channel) (rsv : BitVec 2) (ptr : BitVec 3) : EncodeWellFormed.Statement (.wc0PointHigh c rsv ptr) := rfl

theorem EncodeWellFormed.wc0ResetExtStatusInt (c : Channel) (rsv : BitVec 2) (ptr : BitVec 3) : EncodeWellFormed.Statement (.wc0ResetExtStatusInt c rsv ptr) := rfl

theorem EncodeWellFormed.wc0SendAbort (c : Channel) (rsv : BitVec 2) (ptr : BitVec 3) : EncodeWellFormed.Statement (.wc0SendAbort c rsv ptr) := rfl

theorem EncodeWellFormed.wc0EnableIntNextRx (c : Channel) (rsv : BitVec 2) (ptr : BitVec 3) : EncodeWellFormed.Statement (.wc0EnableIntNextRx c rsv ptr) := rfl

theorem EncodeWellFormed.wc0ResetTxIntPending (c : Channel) (rsv : BitVec 2) (ptr : BitVec 3) : EncodeWellFormed.Statement (.wc0ResetTxIntPending c rsv ptr) := rfl

theorem EncodeWellFormed.wc0ErrorReset (c : Channel) (rsv : BitVec 2) (ptr : BitVec 3) : EncodeWellFormed.Statement (.wc0ErrorReset c rsv ptr) := rfl

theorem EncodeWellFormed.wc0ResetHighestIus (c : Channel) (rsv : BitVec 2) (ptr : BitVec 3) : EncodeWellFormed.Statement (.wc0ResetHighestIus c rsv ptr) := rfl

theorem EncodeWellFormed.wcWR1 (c : Channel) (v : Byte) : EncodeWellFormed.Statement (.wcWR1 c v) := rfl

theorem EncodeWellFormed.wcWR2 (c : Channel) (v : Byte) : EncodeWellFormed.Statement (.wcWR2 c v) := rfl

theorem EncodeWellFormed.wcWR3 (c : Channel) (v : Byte) : EncodeWellFormed.Statement (.wcWR3 c v) := rfl

theorem EncodeWellFormed.wcWR4 (c : Channel) (v : Byte) : EncodeWellFormed.Statement (.wcWR4 c v) := rfl

theorem EncodeWellFormed.wcWR5 (c : Channel) (v : Byte) : EncodeWellFormed.Statement (.wcWR5 c v) := rfl

theorem EncodeWellFormed.wcWR6 (c : Channel) (v : Byte) : EncodeWellFormed.Statement (.wcWR6 c v) := rfl

theorem EncodeWellFormed.wcWR7 (c : Channel) (v : Byte) : EncodeWellFormed.Statement (.wcWR7 c v) := rfl

theorem EncodeWellFormed.wcWR8 (c : Channel) (v : Byte) : EncodeWellFormed.Statement (.wcWR8 c v) := rfl

theorem EncodeWellFormed.wcWR9 (c : Channel) (v : Byte) : EncodeWellFormed.Statement (.wcWR9 c v) := rfl

theorem EncodeWellFormed.wcWR10 (c : Channel) (v : Byte) : EncodeWellFormed.Statement (.wcWR10 c v) := rfl

theorem EncodeWellFormed.wcWR11 (c : Channel) (v : Byte) : EncodeWellFormed.Statement (.wcWR11 c v) := rfl

theorem EncodeWellFormed.wcWR12 (c : Channel) (v : Byte) : EncodeWellFormed.Statement (.wcWR12 c v) := rfl

theorem EncodeWellFormed.wcWR13 (c : Channel) (v : Byte) : EncodeWellFormed.Statement (.wcWR13 c v) := rfl

theorem EncodeWellFormed.wcWR14 (c : Channel) (v : Byte) : EncodeWellFormed.Statement (.wcWR14 c v) := rfl

theorem EncodeWellFormed.wcWR15 (c : Channel) (v : Byte) : EncodeWellFormed.Statement (.wcWR15 c v) := rfl

theorem EncodeWellFormed.rcRR0 (c : Channel) : EncodeWellFormed.Statement (.rcRR0 c) := rfl

theorem EncodeWellFormed.rcRR1 (c : Channel) : EncodeWellFormed.Statement (.rcRR1 c) := rfl

theorem EncodeWellFormed.rcRR2 (c : Channel) : EncodeWellFormed.Statement (.rcRR2 c) := rfl

theorem EncodeWellFormed.rcRR3 (c : Channel) : EncodeWellFormed.Statement (.rcRR3 c) := rfl

theorem EncodeWellFormed.rcRR4 (c : Channel) : EncodeWellFormed.Statement (.rcRR4 c) := rfl

theorem EncodeWellFormed.rcRR5 (c : Channel) : EncodeWellFormed.Statement (.rcRR5 c) := rfl

theorem EncodeWellFormed.rcRR6 (c : Channel) : EncodeWellFormed.Statement (.rcRR6 c) := rfl

theorem EncodeWellFormed.rcRR7 (c : Channel) : EncodeWellFormed.Statement (.rcRR7 c) := rfl

theorem EncodeWellFormed.rcRR8 (c : Channel) : EncodeWellFormed.Statement (.rcRR8 c) := rfl

theorem EncodeWellFormed.rcRR9 (c : Channel) : EncodeWellFormed.Statement (.rcRR9 c) := rfl

theorem EncodeWellFormed.rcRR10 (c : Channel) : EncodeWellFormed.Statement (.rcRR10 c) := rfl

theorem EncodeWellFormed.rcRR11 (c : Channel) : EncodeWellFormed.Statement (.rcRR11 c) := rfl

theorem EncodeWellFormed.rcRR12 (c : Channel) : EncodeWellFormed.Statement (.rcRR12 c) := rfl

theorem EncodeWellFormed.rcRR13 (c : Channel) : EncodeWellFormed.Statement (.rcRR13 c) := rfl

theorem EncodeWellFormed.rcRR14 (c : Channel) : EncodeWellFormed.Statement (.rcRR14 c) := rfl

theorem EncodeWellFormed.rcRR15 (c : Channel) : EncodeWellFormed.Statement (.rcRR15 c) := rfl

theorem EncodeWellFormed.wd (c : Channel) (v : Byte) : EncodeWellFormed.Statement (.wd c v) := rfl

theorem EncodeWellFormed.rd (c : Channel) : EncodeWellFormed.Statement (.rd c) := rfl

theorem EncodeWellFormed.adv (n : Nat) : EncodeWellFormed.Statement (.adv n) := rfl

theorem EncodeWellFormed.dcd (c : Channel) (active : Bool) : EncodeWellFormed.Statement (.dcd c active) := rfl

theorem EncodeWellFormed.cts (c : Channel) (active : Bool) : EncodeWellFormed.Statement (.cts c active) := rfl

theorem EncodeWellFormed.rxb (c : Channel) (v : Byte) : EncodeWellFormed.Statement (.rxb c v) := rfl

theorem EncodeWellFormed.txb (c : Channel) : EncodeWellFormed.Statement (.txb c) := rfl

theorem EncodeWellFormed.ibf (c : Channel) : EncodeWellFormed.Statement (.ibf c) := rfl

theorem EncodeWellFormed.obe (c : Channel) : EncodeWellFormed.Statement (.obe c) := rfl

theorem EncodeWellFormed.rst : EncodeWellFormed.Statement .rst := rfl

end Sys2Proof.Laws
end

