-- ==== Sys2Proof/Tests/Slice0.lean ====
section
/-! SUPPORT. Tests/Slice0.lean: named tests. Expected values come from spec/95_test_vectors.md (vector named in the comment)
or from the tables of the rule named; none from the model. The last part has, for each obligation with hypotheses, a
concrete state and operands that meet them. -/

namespace Sys2Proof.Tests
open Sys2Proof.Machine

/-- What `f` gives of the state after an instruction, if there is a next state. -/
def after {α : Type} (i : Instr) (s : State) (f : State → α) : Option α :=
  match exec i s with
  | .next t => some (f t)
  | _ => none

/-- What `f` gives of the state after one step, if there is a next state. -/
def afterStep {α : Type} (s : State) (f : State → α) : Option α :=
  match step s with
  | .next t => some (f t)
  | _ => none

/-- Whether a step refuses for this reason. -/
def refusedWith (r : Refusal) (s : State) : Bool :=
  match step s with
  | .refused r' => decide (r' = r)
  | _ => false

/-- The state after reset with one operation applied. -/
def given (op : Operation) : State := { State.reset with inbox := [op] }

/-- The state after reset with channel A changed. -/
def withA (f : ChannelState → ChannelState) : State := { State.reset with chanA := f State.reset.chanA }

/-- The state after reset with the configuration changed. -/
def withCfg (f : Cfg → Cfg) : State := { State.reset with cfg := f Cfg.ref }

/-! ### WellFormed: each check refuses an ill-formed term -/

theorem wf_refuses_missing_channel : Operation.wellFormed ⟨.writeControl, none, .byte 0x00#8⟩ = false := by decide

theorem wf_refuses_channel_of_advance : Operation.wellFormed ⟨.advance, some .A, .nat 1⟩ = false := by decide

theorem wf_refuses_missing_byte : Operation.wellFormed ⟨.writeData, some .B, .absent⟩ = false := by decide

theorem wf_refuses_operand_of_read : Operation.wellFormed ⟨.readControl, some .A, .byte 0x00#8⟩ = false := by decide

theorem wf_refuses_byte_for_line : Operation.wellFormed ⟨.setDcd, some .A, .byte 0x01#8⟩ = false := by decide

theorem wf_refuses_bool_for_advance : Operation.wellFormed ⟨.advance, none, .bool true⟩ = false := by decide

theorem wf_takes_reset : Operation.wellFormed ⟨.reset, none, .absent⟩ = true := by decide

theorem wf_refuses_double_bit : isSingleBit 0x03#8 = false ∧ isSingleBit 0x00#8 = false := by decide

/-- P3: a buffer needs two slots. -/
theorem wf_refuses_one_slot : Cfg.countsOk { Cfg.ref with ringCap := 1 } = false := by decide

/-- P4: a quota of 0. -/
theorem wf_refuses_zero_quota : Cfg.countsOk { Cfg.ref with multiR := ⟨1, 0⟩ } = false := by decide

theorem wf_refuses_equal_rr0_masks : Cfg.rr0MasksOk { Cfg.ref with rr0Cts := 0x08#8 } = false := by decide

theorem wf_refuses_wide_rr0_mask : Cfg.rr0MasksOk { Cfg.ref with rr0Dcd := 0x18#8 } = false := by decide

theorem wf_refuses_equal_rr1_masks : Cfg.rr1MasksOk { Cfg.ref with rr1Overrun := 0x01#8 } = false := by decide

theorem wf_refuses_format_without_wr4 :
    Cfg.formatRegsOk { Cfg.ref with formatRegs := [5, 12, 13, 14] } = false := by decide

/-- A `bits_per_char_of` that reads WR3 asks for WR3 in `FORMAT_REGS`. -/
theorem wf_refuses_free_bits_without_wr3 :
    Cfg.formatRegsOk { Cfg.ref with
      decode := { DecodeChoice.allDefault with bitsPerCharOf := .free 0 true true } } = false := by
  decide

/-- One that reads WR5 alone is content with the default set, one that reads WR3 alone with 3 in the place of 5
(N17: "either can be used"). -/
theorem wf_takes_free_bits_of_one_register :
    let cfg := fun (r3 r5 : Bool) (regs : List RegNum) =>
      { Cfg.ref with decode := { DecodeChoice.allDefault with bitsPerCharOf := .free 0 r3 r5 }, formatRegs := regs }
    (cfg false true [4, 5, 12, 13, 14]).wellFormed = true ∧ (cfg true false [3, 4, 12, 13, 14]).wellFormed = true ∧
    (cfg false true [3, 4, 12, 13, 14]).wellFormed = false := by decide

theorem wf_refuses_mirror_of_rr8 : Cfg.mirrorOk { Cfg.ref with mirrorRR := [8, 12] } = false := by decide

theorem wf_refuses_whole_cfg : Cfg.wellFormed { Cfg.ref with mirrorRR := [0] } = false := by decide

theorem wf_takes_reference : Cfg.wellFormed Cfg.ref = true := by decide

/-! ### Decoding: an operation written out for every row (R112, R113, R117, R121) -/

theorem decode_wc0Null : decode 0#4 ⟨.writeControl, some .A, .byte 0b01000101#8⟩ = .ok (.wc0Null .A 1#2 5#3) := rfl

theorem decode_wc0PointHigh : decode 0#4 ⟨.writeControl, some .B, .byte 0b10001000#8⟩ = .ok (.wc0PointHigh .B 2#2 0#3) := rfl

theorem decode_wc0ResetExtStatusInt : decode 0#4 ⟨.writeControl, some .A, .byte 0b11010011#8⟩ = .ok (.wc0ResetExtStatusInt .A 3#2 3#3) := rfl

theorem decode_wc0SendAbort : decode 0#4 ⟨.writeControl, some .B, .byte 0b00011110#8⟩ = .ok (.wc0SendAbort .B 0#2 6#3) := rfl

theorem decode_wc0EnableIntNextRx : decode 0#4 ⟨.writeControl, some .A, .byte 0b01100001#8⟩ = .ok (.wc0EnableIntNextRx .A 1#2 1#3) := rfl

theorem decode_wc0ResetTxIntPending : decode 0#4 ⟨.writeControl, some .B, .byte 0b10101100#8⟩ = .ok (.wc0ResetTxIntPending .B 2#2 4#3) := rfl

theorem decode_wc0ErrorReset : decode 0#4 ⟨.writeControl, some .A, .byte 0b11110111#8⟩ = .ok (.wc0ErrorReset .A 3#2 7#3) := rfl

theorem decode_wc0ResetHighestIus : decode 0#4 ⟨.writeControl, some .B, .byte 0b00111010#8⟩ = .ok (.wc0ResetHighestIus .B 0#2 2#3) := rfl

theorem decode_wcWR1 : decode 1#4 ⟨.writeControl, some .B, .byte 0b10000101#8⟩ = .ok (.wcWR1 .B 0x85#8) := rfl

theorem decode_wcWR2 : decode 2#4 ⟨.writeControl, some .A, .byte 0b10001010#8⟩ = .ok (.wcWR2 .A 0x8A#8) := rfl

theorem decode_wcWR3 : decode 3#4 ⟨.writeControl, some .B, .byte 0b10001111#8⟩ = .ok (.wcWR3 .B 0x8F#8) := rfl

theorem decode_wcWR4 : decode 4#4 ⟨.writeControl, some .A, .byte 0b10010100#8⟩ = .ok (.wcWR4 .A 0x94#8) := rfl

theorem decode_wcWR5 : decode 5#4 ⟨.writeControl, some .B, .byte 0b10011001#8⟩ = .ok (.wcWR5 .B 0x99#8) := rfl

theorem decode_wcWR6 : decode 6#4 ⟨.writeControl, some .A, .byte 0b10011110#8⟩ = .ok (.wcWR6 .A 0x9E#8) := rfl

theorem decode_wcWR7 : decode 7#4 ⟨.writeControl, some .B, .byte 0b10100011#8⟩ = .ok (.wcWR7 .B 0xA3#8) := rfl

theorem decode_wcWR8 : decode 8#4 ⟨.writeControl, some .A, .byte 0b10101000#8⟩ = .ok (.wcWR8 .A 0xA8#8) := rfl

theorem decode_wcWR9 : decode 9#4 ⟨.writeControl, some .B, .byte 0b10101101#8⟩ = .ok (.wcWR9 .B 0xAD#8) := rfl

theorem decode_wcWR10 : decode 10#4 ⟨.writeControl, some .A, .byte 0b10110010#8⟩ = .ok (.wcWR10 .A 0xB2#8) := rfl

theorem decode_wcWR11 : decode 11#4 ⟨.writeControl, some .B, .byte 0b10110111#8⟩ = .ok (.wcWR11 .B 0xB7#8) := rfl

theorem decode_wcWR12 : decode 12#4 ⟨.writeControl, some .A, .byte 0b10111100#8⟩ = .ok (.wcWR12 .A 0xBC#8) := rfl

theorem decode_wcWR13 : decode 13#4 ⟨.writeControl, some .B, .byte 0b11000001#8⟩ = .ok (.wcWR13 .B 0xC1#8) := rfl

theorem decode_wcWR14 : decode 14#4 ⟨.writeControl, some .A, .byte 0b11000110#8⟩ = .ok (.wcWR14 .A 0xC6#8) := rfl

theorem decode_wcWR15 : decode 15#4 ⟨.writeControl, some .B, .byte 0b11001011#8⟩ = .ok (.wcWR15 .B 0xCB#8) := rfl

theorem decode_rcRR0 : decode 0#4 ⟨.readControl, some .B, .absent⟩ = .ok (.rcRR0 .B) := rfl

theorem decode_rcRR1 : decode 1#4 ⟨.readControl, some .A, .absent⟩ = .ok (.rcRR1 .A) := rfl

theorem decode_rcRR2 : decode 2#4 ⟨.readControl, some .B, .absent⟩ = .ok (.rcRR2 .B) := rfl

theorem decode_rcRR3 : decode 3#4 ⟨.readControl, some .A, .absent⟩ = .ok (.rcRR3 .A) := rfl

theorem decode_rcRR4 : decode 4#4 ⟨.readControl, some .B, .absent⟩ = .ok (.rcRR4 .B) := rfl

theorem decode_rcRR5 : decode 5#4 ⟨.readControl, some .A, .absent⟩ = .ok (.rcRR5 .A) := rfl

theorem decode_rcRR6 : decode 6#4 ⟨.readControl, some .B, .absent⟩ = .ok (.rcRR6 .B) := rfl

theorem decode_rcRR7 : decode 7#4 ⟨.readControl, some .A, .absent⟩ = .ok (.rcRR7 .A) := rfl

theorem decode_rcRR8 : decode 8#4 ⟨.readControl, some .B, .absent⟩ = .ok (.rcRR8 .B) := rfl

theorem decode_rcRR9 : decode 9#4 ⟨.readControl, some .A, .absent⟩ = .ok (.rcRR9 .A) := rfl

theorem decode_rcRR10 : decode 10#4 ⟨.readControl, some .B, .absent⟩ = .ok (.rcRR10 .B) := rfl

theorem decode_rcRR11 : decode 11#4 ⟨.readControl, some .A, .absent⟩ = .ok (.rcRR11 .A) := rfl

theorem decode_rcRR12 : decode 12#4 ⟨.readControl, some .B, .absent⟩ = .ok (.rcRR12 .B) := rfl

theorem decode_rcRR13 : decode 13#4 ⟨.readControl, some .A, .absent⟩ = .ok (.rcRR13 .A) := rfl

theorem decode_rcRR14 : decode 14#4 ⟨.readControl, some .B, .absent⟩ = .ok (.rcRR14 .B) := rfl

theorem decode_rcRR15 : decode 15#4 ⟨.readControl, some .A, .absent⟩ = .ok (.rcRR15 .A) := rfl

theorem decode_wd : decode 3#4 ⟨.writeData, some .B, .byte 0b11000011#8⟩ = .ok (.wd .B 0xC3#8) := rfl

theorem decode_rd : decode 3#4 ⟨.readData, some .B, .absent⟩ = .ok (.rd .B) := rfl

theorem decode_adv : decode 3#4 ⟨.advance, none, .nat 3840⟩ = .ok (.adv 3840) := rfl

theorem decode_dcd : decode 3#4 ⟨.setDcd, some .A, .bool false⟩ = .ok (.dcd .A false) := rfl

theorem decode_cts : decode 3#4 ⟨.setCts, some .A, .bool true⟩ = .ok (.cts .A true) := rfl

theorem decode_rxb : decode 3#4 ⟨.receiveByte, some .B, .byte 0b01000001#8⟩ = .ok (.rxb .B 0x41#8) := rfl

theorem decode_txb : decode 3#4 ⟨.sendByte, some .B, .absent⟩ = .ok (.txb .B) := rfl

theorem decode_ibf : decode 3#4 ⟨.inputBufferFull, some .A, .absent⟩ = .ok (.ibf .A) := rfl

theorem decode_obe : decode 3#4 ⟨.outputBufferEmpty, some .B, .absent⟩ = .ok (.obe .B) := rfl

theorem decode_rst : decode 3#4 ⟨.reset, none, .absent⟩ = .ok .rst := rfl

theorem decode_rejects_missing_channel :
    decode 0#4 ⟨.readData, none, .absent⟩ = .error (.missingChannel .readData) := rfl

theorem decode_rejects_channel : decode 0#4 ⟨.reset, some .A, .absent⟩ = .error (.unexpectedChannel .reset) := rfl

theorem decode_rejects_operand : decode 0#4 ⟨.setCts, some .A, .nat 1⟩ = .error (.wrongOperand .setCts) := rfl

/-- The words of the CW0 rows: the `match` column of the opcode table. -/
theorem decodeTableWord_rows : (List.range 8).map (fun k => decodeTableWord 8 (8 * k)) =
    [some (.wc0Null .A 0 0), some (.wc0PointHigh .A 0 0), some (.wc0ResetExtStatusInt .A 0 0),
     some (.wc0SendAbort .A 0 0), some (.wc0EnableIntNextRx .A 0 0), some (.wc0ResetTxIntPending .A 0 0),
     some (.wc0ErrorReset .A 0 0), some (.wc0ResetHighestIus .A 0 0)] := rfl

/-- The table word is run by the very next step: point high leaves the pointer at 8 (V40.2). -/
theorem withFetchWord_runs : afterStep (State.reset.withFetchWord 8 0x08) (fun t => t.controlIndex) = some 8#4 := by
  decide

/-! ### The refusals of the step -/

theorem step_refuses_created : refusedWith .beforeFirstReset
    { State.created Cfg.ref with inbox := [⟨.readControl, some .A, .absent⟩] } = true := by decide

theorem step_refuses_packet : refusedWith .packetFraming
    { given ⟨.reset, none, .absent⟩ with cfg := { Cfg.ref with packetMode := true } } = true := by decide

theorem step_refuses_cfg : refusedWith .illFormedConfiguration
    { given ⟨.reset, none, .absent⟩ with cfg := { Cfg.ref with ringCap := 0 } } = true := by decide

theorem step_refuses_triple : refusedWith (.malformedOperation (.missingChannel .readData))
    (given ⟨.readData, none, .absent⟩) = true := by decide

theorem step_takes_operation :
    afterStep (given ⟨.readControl, some .A, .absent⟩) (fun t => (t.result, t.inbox)) = some (some (.byte 0x04#8), []) := by
  decide

/-! ### One operation at a time -/

/-- V40.3: byte 0x80. -/
theorem test_wc0Null : after (.wc0Null .A 2 0) State.reset
    (fun t => (t.controlIndex, t.chanA.wr 0)) = some (0#4, 0x80#8) := by decide

/-- V40.3: byte 0xC9. -/
theorem test_wc0PointHigh : after (.wc0PointHigh .A 3 1) State.reset
    (fun t => (t.controlIndex, t.chanA.wr 0)) = some (9#4, 0xC9#8) := by decide

/-- S8 and V40.4: command 2. -/
theorem test_wc0ResetExtStatusInt : after (.wc0ResetExtStatusInt .A 0 2) { withA (fun ch => { ch.setWr 9 0x08#8 with statusLatchMask := 0x08#8 }) with rr3 := 0x08#8, irqLine := true }
    (fun t => (t.rr3, t.irqLine, t.chanA.statusLatchMask, t.controlIndex, t.events)) = some (0x00#8, false, 0x00#8, 2#4, [.irq false]) := by decide

/-- V40.9: only WR0 changes. -/
theorem test_wc0SendAbort : after (.wc0SendAbort .A 0 0) State.reset
    (fun t => decide (t = State.reset.updChan .A fun ch => ch.setWr 0 0x18#8)) = some true := by decide

/-- V40.7. -/
theorem test_wc0EnableIntNextRx : after (.wc0EnableIntNextRx .A 0 0) State.reset
    (fun t => (t.chanA.armed, t.chanB.armed, t.events)) = some (true, false, []) := by decide

/-- V40.8 and V40.4: command 5 with 0x12 pending. -/
theorem test_wc0ResetTxIntPending : after (.wc0ResetTxIntPending .A 0 1) { withA (fun ch => ch.setWr 9 0x08#8) with rr3 := 0x12#8, irqLine := true }
    (fun t => (t.rr3, t.events, t.controlIndex)) = some (0x02#8, [], 1#4) := by decide

/-- V40.9: command 6 with the overrun report on. -/
theorem test_wc0ErrorReset : after (.wc0ErrorReset .A 0 0) { withCfg (fun g => { g with rxOverrunReport := true }) with chanA := State.reset.chanA.setRrs 1 0x21#8 }
    (fun t => t.chanA.rrs 1) = some (0x01#8) := by decide

/-- R150: without the report command 6 does nothing. -/
theorem test_wc0ErrorReset_off : after (.wc0ErrorReset .A 0 0) (withA fun ch => ch.setRrs 1 0x21#8)
    (fun t => t.chanA.rrs 1) = some (0x21#8) := by decide

/-- V40.9: only WR0 changes. -/
theorem test_wc0ResetHighestIus : after (.wc0ResetHighestIus .B 0 0) { State.reset with rr3 := 0x3F#8 }
    (fun t => (t.rr3, t.chanB.wr 0, t.events)) = some (0x3F#8, 0x38#8, []) := by decide

/-- V41.5: a byte already in the latch raises nothing. -/
theorem test_wcWR1 : after (.wcWR1 .A 0x10#8) { withA (fun ch => { ch with rxdEmpty := false }) with controlIndex := 1#4 }
    (fun t => (t.chanA.wr 1, t.rr3, t.controlIndex)) = some (0x10#8, 0x00#8, 0#4) := by decide

/-- V41.4: not mirrored by default. -/
theorem test_wcWR2 : after (.wcWR2 .B 0xF0#8) State.reset
    (fun t => (t.chanB.wr 2, t.chanA.wr 2)) = some (0xF0#8, 0x00#8) := by decide

/-- R186: mirrored. -/
theorem test_wcWR2_mirrored : after (.wcWR2 .B 0xF0#8) (withCfg fun g => { g with sharedWrMirror := true })
    (fun t => (t.chanB.wr 2, t.chanA.wr 2)) = some (0xF0#8, 0xF0#8) := by decide

/-- V44.2: no check is run by the write. -/
theorem test_wcWR3 : after (.wcWR3 .A 0x01#8) { withA (fun ch => { ch with rxBuffer := [0x41#8], readQuota := 1 }) with controlIndex := 3#4 }
    (fun t => (t.chanA.wr 3, t.chanA.rxBuffer, t.events)) = some (0x01#8, [0x41#8], []) := by decide

/-- S7, first line. -/
theorem test_wcWR4 : after (.wcWR4 .A 0x44#8) State.reset
    (fun t => (t.events, t.chanA.charClockDivisor)) = some ([.paramsChanged .A 0 0 5 2], 16384) := by decide

/-- P2, step 2: RTS first, then the parameters. -/
theorem test_wcWR5 : after (.wcWR5 .A 0x6A#8) (withA fun ch => { ch.setWr 4 0x44#8 with stopBitsX2 := 2 })
    (fun t => t.events) = some [.rts .A true, .paramsChanged .A 0 0 8 2] := by decide

/-- V41.2: bit 1 unchanged. -/
theorem test_wcWR5_same : after (.wcWR5 .B 0x02#8) { State.reset with chanB := State.reset.chanB.setWr 5 0x02#8 }
    (fun t => t.events) = some [] := by decide

/-- V41.1. -/
theorem test_wcWR6 : after (.wcWR6 .A 0xFF#8) State.reset
    (fun t => (t.chanA.wr 6, t.events)) = some (0xFF#8, []) := by decide

/-- V41.1 and V42.5. -/
theorem test_wcWR7 : after (.wcWR7 .A 0xFF#8) State.reset
    (fun t => (t.chanA.wr 7, t.chanA.rrs 7)) = some (0xFF#8, 0x00#8) := by decide

/-- P4, step 12. -/
theorem test_wcWR8 : after (.wcWR8 .A 0x77#8) { State.reset with controlIndex := 8#4 }
    (fun t => (t.chanA.txLatch, t.chanA.txdEmpty, t.controlIndex)) = some (0x77#8, false, 0#4) := by decide

/-- S4: only bit 3 matters; immediate assertion. -/
theorem test_wcWR9 : after (.wcWR9 .A 0x0A#8) { State.reset with rr3 := 0x20#8 }
    (fun t => (t.irqLine, t.events)) = some (true, [.irq true]) := by decide

/-- S4: WR9 through channel B does nothing. -/
theorem test_wcWR9_B : after (.wcWR9 .B 0x08#8) { State.reset with rr3 := 0x20#8 }
    (fun t => (t.irqLine, t.events, t.chanB.wr 9)) = some (false, [], 0x08#8) := by decide

/-- V41.1. -/
theorem test_wcWR10 : after (.wcWR10 .A 0xFF#8) State.reset
    (fun t => (t.chanA.wr 10, t.events)) = some (0xFF#8, []) := by decide

/-- V41.1. -/
theorem test_wcWR11 : after (.wcWR11 .A 0xFF#8) State.reset
    (fun t => (t.chanA.wr 11, t.events)) = some (0xFF#8, []) := by decide

/-- S7, fourth line. -/
theorem test_wcWR12 : after (.wcWR12 .A 0x0A#8) (withA fun ch => { ((ch.setWr 4 0x44#8).setWr 5 0x60#8).setWr 14 0x03#8 with charClockDivisor := 640, charClockCounter := 7, bps := 57600, bitsPerChar := 8, stopBitsX2 := 2 })
    (fun t => (t.events, t.chanA.charClockDivisor, t.chanA.charClockCounter)) = some ([.paramsChanged .A 9600 0 8 2], 3840, 3840) := by decide

/-- S7: a format write reloads the counter; the tuple is unchanged. -/
theorem test_wcWR13 : after (.wcWR13 .A 0x00#8) (withA fun ch => { (((ch.setWr 4 0x44#8).setWr 5 0x60#8).setWr 12 0x0A#8).setWr 14 0x03#8 with charClockDivisor := 3840, charClockCounter := 1, bps := 9600, bitsPerChar := 8, stopBitsX2 := 2 })
    (fun t => (t.events, t.chanA.charClockCounter)) = some ([], 3840) := by decide

/-- V43.11: source RTxC. -/
theorem test_wcWR14 : after (.wcWR14 .A 0x01#8) (withA fun ch => { ((ch.setWr 4 0x44#8).setWr 5 0x60#8).setWr 12 0x0A#8 with bitsPerChar := 8, stopBitsX2 := 2 })
    (fun t => (t.events, t.chanA.charClockDivisor)) = some ([.paramsChanged .A 4800 0 8 2], 3840) := by decide

/-- V41.5: DCD already changed raises nothing. -/
theorem test_wcWR15 : after (.wcWR15 .A 0x08#8) (withA fun ch => (ch.setWr 1 0x01#8).setRrs 0 0x08#8)
    (fun t => (t.chanA.wr 15, t.rr3)) = some (0x08#8, 0x00#8) := by decide

/-- V42.2, first line. -/
theorem test_rcRR0 : after (.rcRR0 .A) (withA fun ch => { ch.setRrs 0 0x28#8 with rxdEmpty := false, txdEmpty := false })
    (fun t => (t.result, t.controlIndex)) = some (some (.byte 0x29#8), 0#4) := by decide

/-- V42.2, last line. -/
theorem test_rcRR0_latched : after (.rcRR0 .A) (withA fun ch => { ch.setRrs 0 0x28#8 with statusLatchMask := 0x08#8 })
    (fun t => (t.result, t.controlIndex)) = some (some (.byte 0x24#8), 0#4) := by decide

/-- V42.7. -/
theorem test_rcRR1 : after (.rcRR1 .A) { (withA fun ch => ch.setRrs 1 0x21#8) with controlIndex := 1#4 }
    (fun t => (t.result, t.controlIndex)) = some (some (.byte 0x21#8), 0#4) := by decide

/-- V41.4: status high. -/
theorem test_rcRR2 : after (.rcRR2 .B) { withA (fun ch => (ch.setWr 2 0xF0#8).setWr 9 0x18#8) with rr3 := 0x10#8, controlIndex := 2#4 }
    (fun t => (t.result, t.controlIndex)) = some (some (.byte 0x90#8), 0#4) := by decide

/-- V42.3, row 0x09. -/
theorem test_rcRR2_low : after (.rcRR2 .B) { withA (fun ch => ch.setWr 2 0xFF#8) with rr3 := 0x09#8 }
    (fun t => (t.result, t.controlIndex)) = some (some (.byte 0xFB#8), 0#4) := by decide

/-- S5: the union through A. -/
theorem test_rcRR3 : after (.rcRR3 .A) { State.reset with rr3 := 0x22#8, controlIndex := 3#4 }
    (fun t => (t.result, t.controlIndex)) = some (some (.byte 0x22#8), 0#4) := by decide

/-- S5: 0 through B. -/
theorem test_rcRR3_B : after (.rcRR3 .B) { State.reset with rr3 := 0x22#8, controlIndex := 3#4 }
    (fun t => (t.result, t.controlIndex)) = some (some (.byte 0x00#8), 0#4) := by decide

/-- V42.1 and V42.5: RR4 is no mirror of WR4. -/
theorem test_rcRR4 : after (.rcRR4 .A) { (withA fun ch => ch.setWr 4 0x55#8) with controlIndex := 4#4 }
    (fun t => (t.result, t.controlIndex)) = some (some (.byte 0x00#8), 0#4) := by decide

/-- V42.1 and V42.5: RR5 is no mirror of WR5. -/
theorem test_rcRR5 : after (.rcRR5 .A) { (withA fun ch => ch.setWr 5 0x55#8) with controlIndex := 5#4 }
    (fun t => (t.result, t.controlIndex)) = some (some (.byte 0x00#8), 0#4) := by decide

/-- V42.1 and V42.5: RR6 is no mirror of WR6. -/
theorem test_rcRR6 : after (.rcRR6 .A) { (withA fun ch => ch.setWr 6 0x55#8) with controlIndex := 6#4 }
    (fun t => (t.result, t.controlIndex)) = some (some (.byte 0x00#8), 0#4) := by decide

/-- V42.1 and V42.5: RR7 is no mirror of WR7. -/
theorem test_rcRR7 : after (.rcRR7 .A) { (withA fun ch => ch.setWr 7 0x55#8) with controlIndex := 7#4 }
    (fun t => (t.result, t.controlIndex)) = some (some (.byte 0x00#8), 0#4) := by decide

/-- V42.1 and V42.5: RR9 is no mirror of WR9. -/
theorem test_rcRR9 : after (.rcRR9 .A) { (withA fun ch => ch.setWr 9 0x55#8) with controlIndex := 9#4 }
    (fun t => (t.result, t.controlIndex)) = some (some (.byte 0x00#8), 0#4) := by decide

/-- V42.1 and V42.5: RR10 is no mirror of WR10. -/
theorem test_rcRR10 : after (.rcRR10 .A) { (withA fun ch => ch.setWr 10 0x55#8) with controlIndex := 10#4 }
    (fun t => (t.result, t.controlIndex)) = some (some (.byte 0x00#8), 0#4) := by decide

/-- V42.1 and V42.5: RR11 is no mirror of WR11. -/
theorem test_rcRR11 : after (.rcRR11 .A) { (withA fun ch => ch.setWr 11 0x55#8) with controlIndex := 11#4 }
    (fun t => (t.result, t.controlIndex)) = some (some (.byte 0x00#8), 0#4) := by decide

/-- V42.1 and V42.5: RR14 is no mirror of WR14. -/
theorem test_rcRR14 : after (.rcRR14 .A) { (withA fun ch => ch.setWr 14 0x55#8) with controlIndex := 14#4 }
    (fun t => (t.result, t.controlIndex)) = some (some (.byte 0x00#8), 0#4) := by decide

/-- V42.6 and P1, step 11. -/
theorem test_rcRR8 : after (.rcRR8 .A) { (withA fun ch => { ch.setRrs 8 0x41#8 with rxdEmpty := false }) with controlIndex := 8#4 }
    (fun t => (t.result, t.controlIndex)) = some (some (.byte 0x41#8), 0#4) := by decide

/-- V42.5. -/
theorem test_rcRR12 : after (.rcRR12 .A) { (withA fun ch => ch.setWr 12 0x0A#8) with controlIndex := 12#4 }
    (fun t => (t.result, t.controlIndex)) = some (some (.byte 0x0A#8), 0#4) := by decide

/-- V42.5. -/
theorem test_rcRR13 : after (.rcRR13 .A) { (withA fun ch => ch.setWr 13 0x01#8) with controlIndex := 13#4 }
    (fun t => (t.result, t.controlIndex)) = some (some (.byte 0x01#8), 0#4) := by decide

/-- V42.5. -/
theorem test_rcRR15 : after (.rcRR15 .A) { (withA fun ch => ch.setWr 15 0x0B#8) with controlIndex := 15#4 }
    (fun t => (t.result, t.controlIndex)) = some (some (.byte 0x0B#8), 0#4) := by decide

/-- P2, step 13: no quota, so the byte waits. -/
theorem test_wd : after (.wd .A 0x56#8) { withA (fun ch => ((ch.setWr 1 0x02#8).setWr 9 0x08#8).setWr 8 0x55#8) with rr3 := 0x10#8, irqLine := true, controlIndex := 5#4 }
    (fun t => (t.events, t.chanA.txdEmpty, t.rr3, t.controlIndex)) = some ([.irq false], false, 0x00#8, 5#4) := by decide

/-- V44.6: the waiting 0x03 is lost, 0x04 moves at once. -/
theorem test_wd_full : after (.wd .A 0x04#8) { withCfg (fun g => { g with ringCap := 3 }) with chanA := { State.reset.chanA.setWr 8 0x03#8 with txdEmpty := false, writeQuota := 1, txBuffer := [0x02#8] } }
    (fun t => (t.events, t.chanA.txBuffer)) = some ([.outputByte .A 0x04#8], [0x02#8, 0x04#8]) := by decide

/-- V43.23: the next byte is pulled in the same tick period. -/
theorem test_rd : after (.rd .A) (withA fun ch => { (ch.setWr 3 0x01#8).setRrs 8 0x61#8 with rxdEmpty := false, rxBuffer := [0x62#8, 0x63#8], readQuota := 1 })
    (fun t => (t.result, t.chanA.rxLatch, t.chanA.rxBuffer, t.events)) = some (some (.byte 0x61#8), 0x62#8, [0x63#8], [.inputAvailable .A true]) := by decide

/-- V44.8. -/
theorem test_rd_stale : after (.rd .A) (withA fun ch => ch.setRrs 8 0x41#8)
    (fun t => (t.result, t.events)) = some (some (.byte 0x41#8), []) := by decide

/-- V43.14 and R230: one tick only on A; B counts down. -/
theorem test_adv : after (.adv 100) (withA fun ch => { ch with charClockDivisor := 40, charClockCounter := 40 })
    (fun t => (t.chanA.charClockCounter, t.chanA.writeQuota, t.chanB.charClockCounter, t.chanB.writeQuota)) = some (20, 1, 16284, 0) := by decide

/-- P1, step 6. -/
theorem test_adv_receive : after (.adv 1) (withA fun ch => { ((ch.setWr 1 0x10#8).setWr 3 0x01#8).setWr 9 0x08#8 with rxBuffer := [0x41#8], charClockCounter := 1 })
    (fun t => (t.events, t.rr3, t.chanA.rrs 0)) = some ([.inputAvailable .A true, .irq true], 0x20#8, 0x40#8) := by decide

/-- S8. -/
theorem test_dcd : after (.dcd .A true) (withA fun ch => ((ch.setWr 1 0x01#8).setWr 15 0x08#8).setWr 9 0x08#8)
    (fun t => (t.events, t.rr3, t.chanA.rrs 0, t.chanA.statusLatchMask, t.chanA.statusLatchValue)) = some ([.irq true], 0x08#8, 0x08#8, 0x08#8, 0x08#8) := by decide

/-- V45.3. -/
theorem test_dcd_not_enabled : after (.dcd .A true) (withA fun ch => ch.setWr 15 0x08#8)
    (fun t => (t.rr3, t.chanA.rrs 0, t.chanA.statusLatchMask)) = some (0x00#8, 0x08#8, 0x00#8) := by decide

/-- V45.4. -/
theorem test_cts : after (.cts .B true) { State.reset with chanB := (State.reset.chanB.setWr 15 0x20#8).setWr 1 0x01#8 }
    (fun t => (t.rr3, t.chanB.rrs 0)) = some (0x01#8, 0x20#8) := by decide

/-- V46.1: dropped silently. -/
theorem test_rxb : after (.rxb .A 0x34#8) { withCfg (fun g => { g with ringCap := 4 }) with chanA := { State.reset.chanA with rxBuffer := [0x31#8, 0x32#8, 0x33#8] } }
    (fun t => (t.chanA.rxBuffer, t.chanA.rrs 1)) = some ([0x31#8, 0x32#8, 0x33#8], 0x01#8) := by decide

/-- V46.4: no check is run. -/
theorem test_rxb_queued : after (.rxb .A 0x41#8) (withA fun ch => { ch.setWr 3 0x01#8 with readQuota := 1 })
    (fun t => (t.chanA.rxBuffer, t.events)) = some ([0x41#8], []) := by decide

/-- V46.2. -/
theorem test_txb : after (.txb .A) (withA fun ch => { ch with txBuffer := [0x55#8, 0x56#8] })
    (fun t => (t.result, t.chanA.txBuffer)) = some (some (.byte 0x55#8), [0x56#8]) := by decide

/-- V46.2: the sentinel. -/
theorem test_txb_empty : after (.txb .A) State.reset
    (fun t => t.result) = some (some (.byte 0x00#8)) := by decide

/-- V46.1. -/
theorem test_ibf : after (.ibf .A) { withCfg (fun g => { g with ringCap := 4 }) with chanA := { State.reset.chanA with rxBuffer := [0x31#8, 0x32#8, 0x33#8] } }
    (fun t => t.result) = some (some (.bool true)) := by decide

/-- V46.3: a byte waiting in the latch does not count. -/
theorem test_obe : after (.obe .A) (withA fun ch => { ch.setWr 8 0x55#8 with txdEmpty := false })
    (fun t => t.result) = some (some (.bool true)) := by decide

/-- V70.1. -/
theorem test_rst : after (.rst) (withA fun ch => { ch.setWr 5 0x6A#8 with charClockDivisor := 3840, bps := 9600, bitsPerChar := 8, stopBitsX2 := 2 })
    (fun t => (t.events, t.chanA.charClockDivisor)) = some ([.paramsChanged .A 0 0 5 0, .rts .A false, .rts .B false, .irq false], 16384) := by decide

/-- V44.3, policy `drop` at the second tick. -/
theorem test_policy_drop : after (.adv 16384) { withCfg (fun g => { g with latchFullPolicy := .drop }) with
    chanA := { (State.reset.chanA.setWr 3 0x01#8).setRrs 8 0x11#8 with rxdEmpty := false, rxBuffer := [0x22#8, 0x33#8] } }
    (fun t => (t.chanA.rxLatch, t.chanA.rxBuffer, t.chanA.readQuota, t.events)) = some (0x11#8, [0x33#8], 0, []) := by
  decide

/-- V44.3, policy `overwrite` at the second tick. -/
theorem test_policy_overwrite : after (.adv 16384) { withCfg (fun g => { g with latchFullPolicy := .overwrite }) with
    chanA := { (State.reset.chanA.setWr 3 0x01#8).setRrs 8 0x11#8 with rxdEmpty := false, rxBuffer := [0x22#8, 0x33#8] } }
    (fun t => (t.chanA.rxLatch, t.chanA.rxBuffer, t.chanA.readQuota, t.events)) = some (0x22#8, [0x33#8], 0, []) := by
  decide

/-- R123 and the table after R116: the first bytes of two register accesses. -/
theorem test_pseudo_operations : wreg .A 12 0x5A#8 = [writeControlOp .A 0x0C#8, writeControlOp .A 0x5A#8] ∧
    rreg .B 3 = [writeControlOp .B 0x03#8, readControlOp .B] ∧ cmdOp .A 2 = [writeControlOp .A 0x10#8] := by decide

/-! ### Witnesses: for each obligation with hypotheses, values that meet them -/

/-- Channel A in the middle of its work: mode 2, receiver enabled, MIE, a byte in each latch and in each buffer. -/
def busyA : ChannelState :=
  { ((((ChannelState.afterReset Cfg.ref).setWr 1 0x13#8).setWr 3 0x01#8).setWr 9 0x08#8).setRrs 8 0x41#8 with
    rxBuffer := [0x42#8, 0x43#8]
    txBuffer := [0x55#8]
    rxdEmpty := false
    txdEmpty := false
    charClockDivisor := 3840
    charClockCounter := 10
    readQuota := 1
    writeQuota := 1 }

/-- A running chip with channel A busy, its receive interrupt pending, and the IRQ line active. -/
def busy : State :=
  { State.reset with chanA := busyA, rr3 := 0x20#8, irqLine := true, controlIndex := 4#4 }

/-- `busy` with channel A's record changed. -/
def busyWith (f : ChannelState → ChannelState) : State := { busy with chanA := f busyA }

theorem busy_meets_invariant : busy.Inv := by decide

theorem witness_DecodeInvertsEncode :
    pointerOf (.wcWR15 .B 0xFF#8) = some 15#4 ∧ pointerOf (.wc0PointHigh .A 3 7) = some 0#4 ∧
    pointerOf (.adv 5) = none := by decide

theorem witness_EncodeInvertsDecode :
    decode 15#4 ⟨.writeControl, some .B, .byte 0xFF#8⟩ = .ok (.wcWR15 .B 0xFF#8) := rfl

theorem witness_DecodableExactlyOperations :
    Operation.wellFormed ⟨.setCts, some .B, .bool true⟩ = true ∧ Operation.wellFormed ⟨.setCts, none, .bool true⟩ = false := by
  decide

theorem witness_StepRunsDecodedInstruction :
    let s := { busy with inbox := [⟨.readControl, some .A, .absent⟩, ⟨.reset, none, .absent⟩] }
    s.Ready ∧ s.inbox = ⟨.readControl, some .A, .absent⟩ :: [⟨.reset, none, .absent⟩] ∧
    decode s.controlIndex ⟨.readControl, some .A, .absent⟩ = .ok (.rcRR4 .A) :=
  ⟨⟨rfl, by decide, rfl⟩, rfl, rfl⟩

theorem witness_CreatedChipTakesOnlyReset :
    let s := fun op => { State.created Cfg.ref with inbox := [op] }
    (s ⟨.reset, none, .absent⟩).lifecycle = .created ∧ Cfg.ref.wellFormed = true ∧ Cfg.ref.packetMode = false ∧
    decode (s ⟨.reset, none, .absent⟩).controlIndex ⟨.reset, none, .absent⟩ = .ok .rst ∧
    decode (s ⟨.readData, some .A, .absent⟩).controlIndex ⟨.readData, some .A, .absent⟩ = .ok (.rd .A) ∧
    (.rd .A : Instr) ≠ .rst :=
  ⟨rfl, by decide, rfl, rfl, rfl, by decide⟩

theorem witness_StepWithNothingToRun :
    busy.inbox = [] ∧
    { Cfg.ref with packetMode := true }.packetMode = true ∧
    { Cfg.ref with ringCap := 1 }.wellFormed = false ∧ { Cfg.ref with ringCap := 1 }.packetMode = false ∧
    Cfg.ref.wellFormed = true ∧ Operation.wellFormed ⟨.advance, none, .absent⟩ = false := by decide

theorem witness_EveryOperationCompletesKeepingInvariant : busy.Inv := busy_meets_invariant

theorem witness_StepKeepsInvariant :
    let s := { busy with inbox := [⟨.readData, some .A, .absent⟩] }
    s.Inv ∧ ∃ t, step s = .next t := ⟨busy_meets_invariant, _, rfl⟩

theorem witness_AnyOperationSequenceRunsToItsEnd :
    let s := { busy with inbox := [⟨.readControl, some .A, .absent⟩, ⟨.advance, none, .nat 4000⟩] }
    s.Inv ∧ s.Ready ∧ ∀ op ∈ s.inbox, op.wellFormed = true := ⟨busy_meets_invariant, by decide, by decide⟩

theorem witness_PointerZeroAfterAccess :
    let w : Operation := ⟨.writeControl, some .B, .byte 0x44#8⟩
    let r : Operation := ⟨.readControl, some .B, .absent⟩
    { busy with inbox := [w] }.Ready ∧ w.wellFormed = true ∧ isControlWrite w = true ∧ busy.controlIndex ≠ 0#4 ∧
    { busy with inbox := [r] }.Ready ∧ r.wellFormed = true ∧ isControlRead r = true := by decide

theorem witness_CommandByteSetsPointer :
    let s := given ⟨.writeControl, some .A, .byte 0xC9#8⟩
    s.Ready ∧ s.controlIndex = 0#4 ∧ s.inbox = [⟨.writeControl, some .A, .byte 0xC9#8⟩] ∧
    (0xC9#8).toNat / 8 % 8 = 1 ∧ (0x29#8).toNat / 8 % 8 ≠ 1 := by decide

theorem witness_OnlyControlPortMovesPointer :
    pointerOf (.wd .A 0x01#8) = none ∧ (.wd .A 0x01#8 : Instr) ≠ .rst ∧ ∃ t, exec (.wd .A 0x01#8) busy = .next t :=
  ⟨rfl, by decide, _, rfl⟩

theorem witness_WiringNeverChanges : ∃ t, exec .rst busy = .next t := ⟨_, rfl⟩

theorem witness_OtherChannelUntouched :
    channelOf (.wcWR9 .A 0x00#8) = some .A ∧ ¬ (busy.cfg.sharedWrMirror = true ∧ mirrored (.wcWR9 .A 0x00#8) = true) ∧
    channelOf (.rd .A) = some .A ∧ ¬ (true = true ∧ mirrored (.rd .A) = true) ∧
    ∃ t, exec (.wcWR9 .A 0x00#8) busy = .next t := ⟨rfl, by decide, rfl, by decide, _, rfl⟩

theorem witness_StickyBitStaysUntilCleared :
    busy.rr3 &&& sticky .A .rx = sticky .A .rx ∧ clearsSticky .A .rx (.rd .B) = false ∧
    ∃ t, exec (.rd .B) busy = .next t := ⟨by decide, by decide, _, rfl⟩

theorem witness_UnderrunBitStaysUntilReset :
    let s := busyWith fun ch => ch.setRrs 0 0x48#8
    s.cfg.wellFormed = true ∧ (.dcd .A false : Instr) ≠ .rst ∧ (s.chan .A).rrs 0 &&& s.cfg.rr0Underrun ≠ 0#8 ∧
    ∃ t, exec (.dcd .A false) s = .next t := ⟨by decide, by decide, by decide, _, rfl⟩

theorem witness_AllSentNeverCleared :
    busy.cfg.wellFormed = true ∧ (busy.chan .A).rrs 1 &&& busy.cfg.rr1AllSent = busy.cfg.rr1AllSent ∧
    ∃ t, exec (.wc0ErrorReset .A 0 0) busy = .next t := ⟨by decide, by decide, _, rfl⟩

theorem witness_OnlyCommandFourArms :
    ∃ t, exec (.wc0EnableIntNextRx .A 0 0) busy = .next t ∧ (t.chan .A).armed = true := ⟨_, rfl, rfl⟩

theorem witness_BuffersKeepByteOrder : (.adv 10 : Instr) ≠ .rst ∧ ∃ t, exec (.adv 10) busy = .next t :=
  ⟨by decide, _, rfl⟩

/-- Index forms: part full, empty, and full. -/
theorem witness_RingIndexFormIsQueue :
    let r : Nat → Nat → Ring := fun w d => ⟨[0x01#8, 0x02#8, 0x03#8], w, d⟩
    (r 0 2).wf = true ∧ (r 0 2).isFull = false ∧ (r 0 2).isEmpty = false ∧
    (r 2 2).wf = true ∧ (r 2 2).isEmpty = true ∧ (r 1 2).wf = true ∧ (r 1 2).isFull = true := by decide

theorem witness_UnmentionedRegistersOnlyStore :
    ([6, 7, 10, 11] : List RegNum).all (fun n => !busy.cfg.formatRegs.contains n) = true := by decide

/-- Both values of the mirror parameter. -/
theorem witness_EnableAndMaskWritesOnlyStore :
    ([1, 2, 3, 15] : List RegNum).all (fun n => !busy.cfg.formatRegs.contains n) = true ∧
    busy.cfg.sharedWrMirror = false ∧ { Cfg.ref with sharedWrMirror := true }.sharedWrMirror = true := by decide

theorem witness_AddedFormatRegistersRetime :
    let g := { Cfg.ref with formatRegs := [1, 2, 3, 4, 5, 6, 7, 9, 10, 11, 12, 13, 14, 15] }
    ([1, 2, 3, 6, 7, 9, 10, 11, 15] : List RegNum).all (fun n => g.formatRegs.contains n) = true ∧
    g.wellFormed = true ∧ g.sharedWrMirror = false ∧ { g with sharedWrMirror := true }.wellFormed = true := by decide

/-- A chip whose `FORMAT_REGS` holds 0 and 8 too. -/
def allRetime : State := { busy with cfg := { Cfg.ref with formatRegs := [0, 4, 5, 8, 12, 13, 14] } }

theorem allRetime_wellFormed : allRetime.cfg.wellFormed = true := by decide

/-- A register-0 write, and a data write, reload the counter there (R241, R365). -/
theorem test_command_and_data_write_reload :
    (∃ t, exec (.wc0Null .A 0 0) allRetime = .next t ∧ (t.chan .A).charClockCounter = 16384) ∧
    (∃ t, exec (.wd .A 0x55#8) allRetime = .next t ∧ (t.chan .A).charClockCounter = 16384) ∧
    (∃ t, exec (.wd .A 0x55#8) busy = .next t ∧ (t.chan .A).charClockCounter = 10) :=
  ⟨⟨_, rfl, by decide⟩, ⟨_, rfl, by decide⟩, ⟨_, rfl, by decide⟩⟩

theorem witness_MasterEnableWriteMovesIrqAtOnce :
    busy.cfg.formatRegs.contains 9 = false ∧ busy.cfg.sharedWrMirror = false ∧
    { Cfg.ref with sharedWrMirror := true }.formatRegs.contains 9 = false := by decide

/-- Register numbers 1, 8 and 15. -/
theorem witness_RegisterWritePairLands :
    let s := fun n : RegNum => { State.reset with inbox := wreg .A n 0x5A#8 ++ [readDataOp .A] }
    (s 1).Ready ∧ (s 1).controlIndex = 0#4 ∧ (1 : RegNum) ≠ 0 ∧ (s 1).inbox = wreg .A 1 0x5A#8 ++ [readDataOp .A] ∧
    (s 8).Ready ∧ (8 : RegNum) ≠ 0 ∧ (s 15).Ready ∧ (15 : RegNum) ≠ 0 := by decide

theorem witness_DivisorFormulaExact :
    brgEnabled Cfg.ref ((busyA.setWr 14 0x03#8).wr 14) = true ∧ brgEnabled Cfg.ref (busyA.wr 14) = false ∧
    Cfg.ref.decode = DecodeChoice.allDefault := by decide

/-- A channel with the registers of one row of the table of R243. -/
def rowChannel (w4 w5 : Byte) (tc : Nat) : ChannelState :=
  ((((busyA.setWr 4 w4).setWr 5 w5).setWr 12 (BitVec.ofNat 8 tc)).setWr 13 (BitVec.ofNat 8 (tc / 256))).setWr 14 0x03#8

theorem witness_DivisorTableValues :
    ([(0x44#8, 0x60#8, 10), (0x45#8, 0x60#8, 10), (0x47#8, 0x60#8, 10), (0x04#8, 0x60#8, 0), (0x48#8, 0x00#8, 1),
      (0x4C#8, 0x20#8, 4), (0xC0#8, 0x60#8, 0), (0x44#8, 0x60#8, 11), (0xCF#8, 0x60#8, 65535), (0x00#8, 0x00#8, 0)] :
      List (Byte × Byte × Nat)).all (fun r =>
        let ch := rowChannel r.1 r.2.1 r.2.2
        ch.wr 4 == r.1 && ch.wr 5 == r.2.1 && ch.wr 12 == BitVec.ofNat 8 r.2.2 &&
          ch.wr 13 == BitVec.ofNat 8 (r.2.2 / 256) && ch.wr 14 == 0x03#8) = true ∧
    (busyA.wr 14).getLsbD 0 = false := by decide

/-- The least and the greatest such `n` for the state. -/
theorem witness_AdvanceBelowCountersOnlyCounts :
    0 < busy.chanA.charClockCounter ∧ 9 < busy.chanA.charClockCounter ∧ 9 < busy.chanB.charClockCounter := by decide

/-- A state that meets the invariants, below and at the end of channel A's count, and past it by many characters. -/
theorem witness_AdvanceMovesBothClocks :
    busy.Inv ∧ 9 < (busy.chan .A).charClockCounter ∧ (busy.chan .A).charClockCounter ≤ 10 ∧
    (busy.chan .A).charClockCounter ≤ 100000 ∧ (busy.chan .B).charClockCounter ≤ 100000 := by decide

/-- With the enables of a raise and an empty receive buffer; without the enables, and with bytes to receive. -/
theorem witness_IdleTickNotesUnderrun :
    let s := busyWith fun ch => { ch.setWr 15 0x40#8 with rxBuffer := [], txdEmpty := true }
    let u := busyWith fun ch => { ch with rxdEmpty := true, txdEmpty := true }
    (s.Inv ∧ s.cfg.wellFormed = true ∧ (s.chan .A).charClockCounter ≤ 10 ∧ (s.chan .A).rxBuffer = [] ∧
      (s.chan .A).txdEmpty = true ∧ (s.chan .A).txBuffer.length ≠ s.cfg.ringCap - 1 ∧
      (s.chan .A).rrs 0 &&& s.cfg.rr0Underrun = 0#8 ∧ s.cfg.underrunExtInt = true ∧
      (s.chan .A).wr 15 &&& s.cfg.rr0Underrun ≠ 0#8 ∧ ((s.chan .A).wr 1).getLsbD 0 = true) ∧
    (u.Inv ∧ u.cfg.wellFormed = true ∧ (u.chan .A).charClockCounter ≤ 10 ∧ (u.chan .A).rxBuffer ≠ [] ∧
      (u.chan .A).txdEmpty = true ∧ (u.chan .A).txBuffer.length ≠ u.cfg.ringCap - 1 ∧
      (u.chan .A).wr 15 &&& u.cfg.rr0Underrun = 0#8) := by
  refine ⟨?_, ?_⟩ <;> decide

/-- An empty latch at each receive mode: 2; 1 armed; 1 not armed; 0; 3. -/
theorem witness_TickDeliversReceivedByte :
    let s := fun (w1 : Byte) (armed : Bool) =>
      busyWith fun ch => { ch.setWr 1 w1 with rxdEmpty := true, armed := armed }
    ([(0x10#8, false), (0x08#8, true), (0x08#8, false), (0x00#8, false), (0x18#8, true)] : List (Byte × Bool)).all
      (fun p =>
        let t := s p.1 p.2
        decide (t.Inv ∧ t.cfg.wellFormed = true ∧ (t.chan .A).charClockCounter ≤ 10 ∧
          (t.chan .A).rxBuffer = 0x42#8 :: [0x43#8] ∧ ((t.chan .A).wr 3).getLsbD 0 = true ∧
          (t.chan .A).rxdEmpty = true)) = true := by decide

/-- A full latch under each policy. -/
theorem witness_TickDeliversReceivedByte_latch_full :
    ([.hold, .drop, .overwrite] : List LatchFullPolicy).all (fun p =>
      let t := { busy with cfg := { Cfg.ref with latchFullPolicy := p } }
      decide (t.Inv ∧ t.cfg.wellFormed = true ∧ (t.chan .A).charClockCounter ≤ 10 ∧
        (t.chan .A).rxBuffer = 0x42#8 :: [0x43#8] ∧ ((t.chan .A).wr 3).getLsbD 0 = true ∧
        (t.chan .A).rxdEmpty = false)) = true := by decide

/-- Nothing queued; and the receiver disabled. -/
theorem witness_TickDeliversReceivedByte_nothing :
    let s := busyWith fun ch => { ch with rxBuffer := [] }
    let u := busyWith fun ch => ch.setWr 3 0x00#8
    (s.Inv ∧ s.cfg.wellFormed = true ∧ (s.chan .A).charClockCounter ≤ 10 ∧ (s.chan .A).rxBuffer = []) ∧
    (u.Inv ∧ u.cfg.wellFormed = true ∧ (u.chan .A).charClockCounter ≤ 10 ∧
      ((u.chan .A).wr 3).getLsbD 0 = false) := by
  refine ⟨?_, ?_⟩ <;> decide

/-- A byte to send with room; and a full transmit buffer, the latch empty and not. -/
theorem witness_TickSendsLatchedByte :
    let full := fun empty : Bool =>
      { busyWith (fun ch => { ch with rxBuffer := [], txdEmpty := empty }) with cfg := { Cfg.ref with ringCap := 2 } }
    (busy.Inv ∧ busy.cfg.wellFormed = true ∧ (busy.chan .A).charClockCounter ≤ 10 ∧ (busy.chan .A).txdEmpty = false ∧
      (busy.chan .A).txBuffer.length ≠ busy.cfg.ringCap - 1) ∧
    ([true, false].all fun empty => decide ((full empty).Inv ∧ (full empty).cfg.wellFormed = true ∧
      ((full empty).chan .A).charClockCounter ≤ 10 ∧ ((full empty).chan .A).txdEmpty = empty ∧
      ((full empty).chan .A).txBuffer.length = (full empty).cfg.ringCap - 1)) = true := by decide

theorem witness_VectorRead : busy.cfg.vectorEncode = .default := by decide

theorem witness_UnusedReadRegistersReadZero :
    busy.Inv ∧ ([4, 5, 6, 7, 9, 10, 11, 14] : List RegNum).all (fun n => !busy.cfg.mirrorRR.contains n) = true := by
  decide

/-- No quota; and no room. -/
theorem witness_WriteDataWaitsInLatch :
    ((busyWith fun ch => { ch with writeQuota := 0 }).chan .A).writeQuota = 0 ∧
    { busy with cfg := { Cfg.ref with ringCap := 2 } }.cfg.ringCap - 1 = (busy.chan .A).txBuffer.length := by decide

theorem witness_WriteDataSendsAtOnce :
    (busy.chan .A).writeQuota ≠ 0 ∧ (busy.chan .A).txBuffer.length ≠ busy.cfg.ringCap - 1 := by decide

/-- Buffer empty; no quota; receiver disabled. -/
theorem witness_ReadDataEmptiesLatch :
    ((busyWith fun ch => { ch with rxBuffer := [] }).chan .A).rxBuffer = [] ∧
    ((busyWith fun ch => { ch with readQuota := 0 }).chan .A).readQuota = 0 ∧
    (((busyWith fun ch => ch.setWr 3 0x00#8).chan .A).wr 3).getLsbD 0 = false := by decide

theorem witness_ReadDataPullsNextByte :
    (busy.chan .A).rxBuffer = 0x42#8 :: [0x43#8] ∧ (busy.chan .A).readQuota ≠ 0 ∧
    ((busy.chan .A).wr 3).getLsbD 0 = true := by decide

/-- Either mask clear, for either line. -/
theorem witness_MaskedLineChangeOnlyStores :
    busy.irqLine = irqLevel busy ∧ ((busy.chan .A).rrs 0 ^^^ (0x00#8 ||| 0x08#8)) &&& (busy.chan .A).wr 15 = 0#8 ∧
    ((busy.chan .A).rrs 0 ^^^ (0x00#8 ||| 0x20#8)) &&& (busy.chan .A).wr 15 = 0#8 ∧
    (((busyWith fun ch => ch.setWr 1 0x00#8).chan .A).wr 1).getLsbD 0 = false := by decide

theorem witness_EnabledLineChangeRaises :
    let s := busyWith fun ch => ch.setWr 15 0x28#8
    ((s.chan .A).wr 1).getLsbD 0 = true ∧ s.cfg.extActiveSetsBit = true ∧
    ((s.chan .A).rrs 0 ^^^ ((s.chan .A).rrs 0 ||| s.cfg.rr0Dcd)) &&& (s.chan .A).wr 15 ≠ 0#8 ∧
    ((s.chan .A).rrs 0 ^^^ ((s.chan .A).rrs 0 ||| s.cfg.rr0Cts)) &&& (s.chan .A).wr 15 ≠ 0#8 := by decide

/-- Room; full with the report off; full with it on. -/
theorem witness_ReceiveByteQueuesOrDrops :
    (busy.chan .A).rxBuffer.length ≠ busy.cfg.ringCap - 1 ∧
    (busy.chan .A).rxBuffer.length = { Cfg.ref with ringCap := 3 }.ringCap - 1 ∧
    { Cfg.ref with ringCap := 3 }.rxOverrunReport = false ∧
    { Cfg.ref with ringCap := 3, rxOverrunReport := true }.rxOverrunReport = true := by decide

theorem witness_SendByteTakesHeadOrSentinel :
    (busy.chan .B).txBuffer = [] ∧ (busy.chan .A).txBuffer = 0x55#8 :: [] := by decide

theorem witness_RstUnderDefaultDecode : busy.cfg.decode = DecodeChoice.allDefault := by decide

end Sys2Proof.Tests
end

section
/-! The register pointer (R60, R140, R141): what each shared operation leaves in it, what a control-port operation decodes
to, and what the reads and writes of that port leave the pointer at; then the reads of the registers that `MIRROR_RR` can
hold (R45, R46). -/

namespace Sys2Proof.Machine

/-! ### The pointer after each shared operation -/

@[simp] theorem recomputeIrq_controlIndex (s : State) : (recomputeIrq s).controlIndex = s.controlIndex := by
  rw [recomputeIrq_eq, withSticky_controlIndex]

@[simp] theorem recomputeTiming_controlIndex (c : Channel) (s : State) :
    (recomputeTiming c s).controlIndex = s.controlIndex := by
  rw [recomputeTiming_eq, retimed_controlIndex]

@[simp] theorem ifFormat_controlIndex (c : Channel) (i : RegNum) (s : State) :
    (ifFormat c i s).controlIndex = s.controlIndex := by
  rw [ifFormat_eq, retimedFor_controlIndex]

@[simp] theorem setRts_controlIndex (c : Channel) (flag : Bool) (s : State) :
    (setRts c flag s).controlIndex = s.controlIndex := emit_controlIndex _ s

@[simp] theorem writeData_controlIndex (c : Channel) (v : Byte) (s : State) :
    (writeData c v s).controlIndex = s.controlIndex := by
  rw [writeData_eq, retimedFor_controlIndex, (onlyRaises_checkTransmit c _).controlIndex, withSticky_controlIndex,
    updChan_controlIndex]

@[simp] theorem readData_controlIndex (c : Channel) (s : State) : (readData c s).controlIndex = s.controlIndex := by
  rw [readData_eq, (onlyRaises_checkReceive c _).controlIndex, withSticky_controlIndex, updChan_controlIndex]

@[simp] theorem returnByte_controlIndex (v : Byte) (s : State) : (returnByte v s).controlIndex = s.controlIndex := rfl

@[simp] theorem consumePointer_controlIndex (s : State) : (consumePointer s).controlIndex = 0#4 := rfl

@[simp] theorem readPlain_controlIndex (v : Byte) (s : State) : (readPlain v s).controlIndex = 0#4 := rfl

@[simp] theorem storeReg_controlIndex (c : Channel) (i : RegNum) (v : Byte) (s : State) :
    (storeReg c i v s).controlIndex = 0#4 := updChan_controlIndex _ c _

@[simp] theorem storeShared_controlIndex (c : Channel) (i : RegNum) (v : Byte) (s : State) :
    (storeShared c i v s).controlIndex = 0#4 := by
  rw [storeShared_eq]; split <;> rfl

/-! ### The step on a ready chip, and the control-port operations -/

/-- On a ready chip the step is the meaning of the operation's row (R4, R121). -/
theorem step_of_ready {s : State} {op : Operation} {rest : List Operation} {i : Instr} (hs : s.Ready)
    (hin : s.inbox = op :: rest) (hdec : decode s.controlIndex op = .ok i) : step s = exec i (beginOp rest s) := by
  obtain ⟨hlife, hwf, hpacket⟩ := hs
  simp [step, hin, hdec, accepts, hlife, hwf, hpacket]

/-- A control-port read of R111 names a channel and nothing else. -/
theorem eq_readControlOp {op : Operation} (hwf : op.wellFormed = true) (hread : isControlRead op = true) :
    ∃ c, op = readControlOp c := by
  obtain ⟨kind, channel, operand⟩ := op
  obtain rfl : kind = .readControl := of_decide_eq_true hread
  cases channel with
  | none => cases hwf
  | some c =>
    cases operand with
    | absent => exact ⟨c, rfl⟩
    | _ => cases hwf

/-- A control-port write of R111 names a channel and a byte. -/
theorem eq_writeControlOp {op : Operation} (hwf : op.wellFormed = true) (hwrite : isControlWrite op = true) :
    ∃ c v, op = writeControlOp c v := by
  obtain ⟨kind, channel, operand⟩ := op
  obtain rfl : kind = .writeControl := of_decide_eq_true hwrite
  cases channel with
  | none => cases hwf
  | some c =>
    cases operand with
    | byte v => exact ⟨c, v, rfl⟩
    | _ => cases hwf

theorem decode_readControlOp (ci : BitVec 4) (c : Channel) :
    decode ci (readControlOp c) = .ok (decodeReadControl ci c) := rfl

theorem decode_writeControlOp (ci : BitVec 4) (c : Channel) (v : Byte) :
    decode ci (writeControlOp c v) = .ok (decodeWriteControl ci c v) := rfl

/-! ### Reads and writes through the control port -/

/-- What a control-port read can do (R143, R200 to R216): return a byte and consume the pointer; or, for RR8, read the
data register besides. -/
theorem exec_decodeReadControl_cases (ci : BitVec 4) (c : Channel) (s : State) :
    (∃ v, exec (decodeReadControl ci c) s = .next (readPlain v s)) ∨
    exec (decodeReadControl ci c) s = .next (returnByte (s.chan c).rxLatch (readData c (consumePointer s))) := by
  unfold decodeReadControl
  split
  case h_9 => exact .inr rfl
  all_goals exact .inl ⟨_, rfl⟩

theorem exec_decodeReadControl_pointer (ci : BitVec 4) (c : Channel) (s : State) :
    ∃ t, exec (decodeReadControl ci c) s = .next t ∧ t.controlIndex = 0#4 := by
  rcases exec_decodeReadControl_cases ci c s with ⟨v, h⟩ | h
  · exact ⟨_, h, readPlain_controlIndex v s⟩
  · exact ⟨_, h, by simp⟩

/-- A write of WR5 consumes the pointer whether or not it reports RTS (R175). -/
theorem execWcWR5_pointer (c : Channel) (v : Byte) (s : State) :
    ∃ t, execWcWR5 c v s = .next t ∧ t.controlIndex = 0#4 :=
  ⟨_, rfl, by rw [ifFormat_controlIndex]; split <;> simp⟩

/-- With the pointer at 0 the byte is a command, and the pointer is what it sets (R114); every other write consumes it
(R140). -/
theorem exec_decodeWriteControl_pointer {ci : BitVec 4} (hci : ci ≠ 0#4) (c : Channel) (v : Byte) (s : State) :
    ∃ t, exec (decodeWriteControl ci c v) s = .next t ∧ t.controlIndex = 0#4 := by
  unfold decodeWriteControl
  split
  case h_1 h => exact absurd (BitVec.eq_of_toNat_eq h) hci
  case h_6 => exact execWcWR5_pointer c v s
  all_goals exact ⟨_, rfl, by simp⟩

/-- Settles O13: the operation is a read or a write of the control port, its row the one the pointer selects, and every
row but the commands consumes the pointer. -/
theorem pointerZeroAfterAccess : Obligations.PointerZeroAfterAccess := by
  intro s op rest hs hin hwf haccess
  rcases haccess with ⟨hwrite, hci⟩ | hread
  · obtain ⟨c, v, rfl⟩ := eq_writeControlOp hwf hwrite
    rw [step_of_ready hs hin (decode_writeControlOp _ c v)]
    exact exec_decodeWriteControl_pointer hci c v _
  · obtain ⟨c, rfl⟩ := eq_readControlOp hwf hread
    rw [step_of_ready hs hin (decode_readControlOp _ c)]
    exact exec_decodeReadControl_pointer _ c _

/-- A read of a register without a synthesized value (R46): those `MIRROR_RR` may hold (P19, `Cfg.mirrorOk`). -/
theorem exec_decodeReadControl_stored (c : Channel) (s : State) (n : RegNum) (hn : n ∉ [0, 1, 2, 3, 8]) :
    exec (decodeReadControl (BitVec.ofFin n) c) s = .next { s with
      controlIndex := 0#4
      result := some (.byte (if s.cfg.mirrorRR.contains n then (s.chan c).wr n else (s.chan c).rrs n)) } := by
  have others : ∀ m : RegNum, m ∉ [0, 1, 2, 3, 8] → m ∈ [4, 5, 6, 7, 9, 10, 11, 12, 13, 14, 15] := by decide
  have hmem := others n hn
  fin_cases hmem <;> rfl

/-- Settles O47: each of the eleven rows is the read that the pointer at its number selects. -/
theorem mirrorReads : Obligations.MirrorReads := by
  intro c s value after
  have read : ∀ n : RegNum, n ∉ [0, 1, 2, 3, 8] → exec (decodeReadControl (BitVec.ofFin n) c) s = .next (after n) :=
    exec_decodeReadControl_stored c s
  exact ⟨read 4 (by decide), read 5 (by decide), read 6 (by decide), read 7 (by decide), read 9 (by decide),
    read 10 (by decide), read 11 (by decide), read 12 (by decide), read 13 (by decide), read 14 (by decide),
    read 15 (by decide)⟩

end Sys2Proof.Machine
end

section
/-! The register-0 byte (R112, R114, R140): what its three fields are as numbers, what every command does with the byte
and with the register pointer, and the pointer that a write of register 0 leaves. -/

namespace Sys2Proof.Machine

/-! ### The fields of a register-0 byte -/

theorem cmdField_toNat (v : Byte) : (cmdField v).toNat = v.toNat / 8 % 8 := by
  simp [cmdField, Nat.shiftRight_eq_div_pow]

theorem ptrField_toNat (v : Byte) : (ptrField v).toNat = v.toNat % 8 := by
  simp [ptrField]

/-- The three fields together are the whole byte (R112). -/
@[simp] theorem commandByte_fields (v : Byte) : commandByte (rsvField v) (cmdField v) (ptrField v) = v := by
  have upper : rsvField v ++ cmdField v = v.extractLsb' 3 5 :=
    BitVec.extractLsb'_append_extractLsb'_eq_extractLsb' rfl
  have whole : v.extractLsb' 3 5 ++ ptrField v = v.extractLsb' 0 8 :=
    BitVec.extractLsb'_append_extractLsb'_eq_extractLsb' rfl
  rw [commandByte, upper, whole, BitVec.extractLsb'_eq_self]

/-- The sum does not wrap: the pointer field is below 8 (R114). -/
theorem pointerAfter_toNat (cmd ptr : BitVec 3) :
    (pointerAfter cmd ptr).toNat = ptr.toNat + (if cmd.toNat = 1 then 8 else 0) := by
  have hptr := ptr.isLt
  have hcmd : cmd = 1#3 ↔ cmd.toNat = 1 := BitVec.toNat_inj.symm
  simp only [pointerAfter, hcmd, BitVec.toNat_add, BitVec.toNat_setWidth]
  split <;> simp <;> omega

/-! ### What a write of register 0 does -/

/-- With the pointer at 0 the byte of a control-port write is a command (R112). -/
theorem decodeWriteControl_zero (c : Channel) (v : Byte) : decodeWriteControl 0#4 c v = decodeCommand c v := rfl

/-- What a register-0 byte can do once it is stored and the pointer set (R140, R144 to R151): nothing more; clear the
external/status or the transmit condition; arm the channel; clear bits of RR1. The timing comes last, if `FORMAT_REGS`
holds 0. -/
theorem exec_decodeCommand_cases (c : Channel) (v : Byte) (s : State) :
    let stored := storeCommand c (rsvField v) (cmdField v) (ptrField v) s
    ∃ u, exec (decodeCommand c v) s = .next (ifFormat c 0 u) ∧
      (u = stored ∨ u = clearCondition c { ext := true } stored ∨ u = clearCondition c { tx := true } stored ∨
        u = stored.updChan c (fun ch => { ch with armed := true }) ∨
        u = stored.updChan c fun ch => ch.setRrs 1 (ch.rrs 1 &&& ~~~s.cfg.rr1Overrun)) := by
  have commands : ∀ k : BitVec 3,
      k = 0#3 ∨ k = 1#3 ∨ k = 2#3 ∨ k = 3#3 ∨ k = 4#3 ∨ k = 5#3 ∨ k = 6#3 ∨ k = 7#3 := by decide
  unfold decodeCommand
  rcases commands (cmdField v) with h | h | h | h | h | h | h | h <;> rw [h]
  · exact ⟨_, rfl, .inl rfl⟩
  · exact ⟨_, rfl, .inl rfl⟩
  · exact ⟨_, rfl, .inr (.inl rfl)⟩
  · exact ⟨_, rfl, .inl rfl⟩
  · exact ⟨_, rfl, .inr (.inr (.inr (.inl rfl)))⟩
  · exact ⟨_, rfl, .inr (.inr (.inl rfl))⟩
  · refine ⟨_, rfl, ?_⟩
    split
    · exact .inr (.inr (.inr (.inr rfl)))
    · exact .inl rfl
  · exact ⟨_, rfl, .inl rfl⟩

@[simp] theorem storeCommand_controlIndex (c : Channel) (rsv : BitVec 2) (cmd ptr : BitVec 3) (s : State) :
    (storeCommand c rsv cmd ptr s).controlIndex = pointerAfter cmd ptr := rfl

@[simp] theorem storeCommand_chan (c : Channel) (rsv : BitVec 2) (cmd ptr : BitVec 3) (s : State) :
    (storeCommand c rsv cmd ptr s).chan c = (s.chan c).setWr 0 (commandByte rsv cmd ptr) := by
  cases c <;> rfl

@[simp] theorem ifFormat_wr (c : Channel) (i j : RegNum) (s : State) :
    ((ifFormat c i s).chan c).wr j = (s.chan c).wr j := by
  rw [ifFormat_eq, retimedFor_chan]
  split <;> simp

/-- Every register-0 write stores the byte and sets the pointer, whatever its command (R114, R140). -/
theorem exec_decodeCommand_pointer (c : Channel) (v : Byte) (s : State) :
    ∃ t, exec (decodeCommand c v) s = .next t ∧
      t.controlIndex = pointerAfter (cmdField v) (ptrField v) ∧ (t.chan c).wr 0 = v := by
  obtain ⟨u, hexec, heffect⟩ := exec_decodeCommand_cases c v s
  refine ⟨_, hexec, ?_⟩
  rw [ifFormat_controlIndex, ifFormat_wr]
  rcases heffect with rfl | rfl | rfl | rfl | rfl
  · simp
  · simp [clearCondition_ext]
  · simp [clearCondition_tx]
  · simp
  · simp

/-- Settles O14: with the pointer at 0 the byte is a command, and every command leaves the pointer that R114's formula
gives for the byte's fields. -/
theorem commandByteSetsPointer : Obligations.CommandByteSetsPointer := by
  intro s c v rest hs hci hin
  have hdec : decode s.controlIndex (writeControlOp c v) = .ok (decodeCommand c v) := by
    rw [hci, decode_writeControlOp, decodeWriteControl_zero]
  obtain ⟨t, hexec, hpointer, hstored⟩ := exec_decodeCommand_pointer c v (beginOp rest s)
  refine ⟨t, (step_of_ready hs hin hdec).trans hexec, ?_, hstored⟩
  rw [hpointer, pointerAfter_toNat, cmdField_toNat, ptrField_toNat]

end Sys2Proof.Machine
end

section
/-! The register writes that only store (R176, R177, R179, R180): the store as one update of the state, and what is left
of a write when `FORMAT_REGS` does not hold its register. -/

namespace Sys2Proof.Machine

/-- The store of a register write as one update: the byte in the register and the pointer at 0 (R140, R170). -/
theorem storeReg_eq (c : Channel) (i : RegNum) (v : Byte) (s : State) :
    storeReg c i v s = { s.updChan c (fun ch => ch.setWr i v) with controlIndex := 0#4 } := by
  cases c <;> rfl

@[simp] theorem storeReg_cfg (c : Channel) (i : RegNum) (v : Byte) (s : State) : (storeReg c i v s).cfg = s.cfg :=
  updChan_cfg _ c _

/-- A write of a register outside `FORMAT_REGS` recomputes nothing (R91, P18). -/
theorem ifFormat_of_not_format {c : Channel} {i : RegNum} {s : State} (hi : s.cfg.formatRegs.contains i = false) :
    ifFormat c i s = s := by
  rw [ifFormat, hi]
  rfl

/-- What a plain write of a register outside `FORMAT_REGS` comes to: the store alone (R170). -/
theorem ifFormat_storeReg_of_not_format (c : Channel) {i : RegNum} (v : Byte) {s : State}
    (hi : s.cfg.formatRegs.contains i = false) :
    ifFormat c i (storeReg c i v s) = { s.updChan c (fun ch => ch.setWr i v) with controlIndex := 0#4 } := by
  have hstored : (storeReg c i v s).cfg.formatRegs.contains i = false := by rwa [storeReg_cfg]
  rw [ifFormat_of_not_format hstored, storeReg_eq]

/-- Settles O29: each of the four rows is the store followed by `ifFormat`, which is idle outside `FORMAT_REGS`. -/
theorem unmentionedRegistersOnlyStore : Obligations.UnmentionedRegistersOnlyStore := by
  intro c v s
  have stores (i : RegNum) (hi : s.cfg.formatRegs.contains i = false) :
      Host.Outcome.next (ifFormat c i (storeReg c i v s)) =
        (.next { s.updChan c (fun ch => ch.setWr i v) with controlIndex := 0#4 } : Host.Outcome State Fault Refusal) :=
    congrArg _ (ifFormat_storeReg_of_not_format c v hi)
  exact ⟨stores 6, stores 7, stores 10, stores 11⟩

end Sys2Proof.Machine
end

section
/-! The reads that return a stored byte (R202, R204 to R208, R210 to R212, R215): what the rows of RR1 and RR3 do, and
why the read registers without content read 0 under the invariants. -/

namespace Sys2Proof.Machine

/-- A read without side effects as one update: the pointer at 0 and the byte as the result (R141, R200). -/
theorem readPlain_eq (v : Byte) (s : State) :
    readPlain v s = { s with controlIndex := 0#4, result := some (.byte v) } := rfl

theorem exec_rcRR1 (c : Channel) (s : State) : exec (.rcRR1 c) s = .next (readPlain ((s.chan c).rrs 1) s) := rfl

theorem exec_rcRR3_A (s : State) : exec (.rcRR3 .A) s = .next (readPlain s.rr3 s) := rfl

theorem exec_rcRR3_B (s : State) : exec (.rcRR3 .B) s = .next (readPlain 0x00#8 s) := rfl

/-- Settles O44: RR1, RR3 through A and RR3 through B are reads without side effects, each of its own byte. -/
theorem readsOfRR1AndRR3 : Obligations.ReadsOfRR1AndRR3 := by
  intro c s
  rw [exec_rcRR1, exec_rcRR3_A, exec_rcRR3_B]
  exact ⟨congrArg _ (readPlain_eq _ s), congrArg _ (readPlain_eq _ s), congrArg _ (readPlain_eq _ s)⟩

/-- The invariants of the chip hold of either channel (R58, R59). -/
theorem State.Inv.chan_ok {s : State} (hs : s.Inv) (c : Channel) : (s.chan c).Ok s.cfg c := by
  obtain ⟨_, _, hA, hB⟩ := hs
  cases c with
  | A => exact hA
  | B => exact hB

/-- Only RR0, RR1 and RR8 ever hold a stored byte (R25, R59). -/
theorem State.Inv.rrs_eq_zero {s : State} (hs : s.Inv) (c : Channel) {n : RegNum} (h0 : n ≠ 0) (h1 : n ≠ 1)
    (h8 : n ≠ 8) : (s.chan c).rrs n = 0x00#8 := by
  obtain ⟨_, _, _, _, _, _, _, _, _, _, hunused⟩ := hs.chan_ok c
  exact hunused n h0 h1 h8

/-- A read of a register without a synthesized value, outside `MIRROR_RR`, gives the stored byte, which the invariants
hold at 0 (R46). -/
theorem exec_decodeReadControl_unused (c : Channel) {s : State} (hs : s.Inv) (n : RegNum) (hn : n ∉ [0, 1, 2, 3, 8])
    (hmirror : s.cfg.mirrorRR.contains n = false) :
    exec (decodeReadControl (BitVec.ofFin n) c) s =
      .next { s with controlIndex := 0#4, result := some (.byte 0x00#8) } ∧ (s.chan c).rrs n = 0x00#8 := by
  have hzero : (s.chan c).rrs n = 0x00#8 := by
    apply hs.rrs_eq_zero c <;> rintro rfl <;> simp at hn
  refine ⟨?_, hzero⟩
  rw [exec_decodeReadControl_stored c s n hn, hmirror, hzero]
  rfl

/-- Settles O46: each of the eight rows is the read that the pointer at its number selects, of a stored byte that the
invariants hold at 0. -/
theorem unusedReadRegistersReadZero : Obligations.UnusedReadRegistersReadZero := by
  intro c s hs zero
  have read : ∀ n : RegNum, n ∉ [0, 1, 2, 3, 8] → s.cfg.mirrorRR.contains n = false →
      exec (decodeReadControl (BitVec.ofFin n) c) s = .next zero ∧ (s.chan c).rrs n = 0x00#8 :=
    exec_decodeReadControl_unused c hs
  exact ⟨read 4 (by decide), read 5 (by decide), read 6 (by decide), read 7 (by decide), read 9 (by decide),
    read 10 (by decide), read 11 (by decide), read 14 (by decide)⟩

end Sys2Proof.Machine
end

section
/-! The transport's queries (R292, R293): what the two tests of a buffer say of its length, and the instructions that
return them. -/

namespace Sys2Proof.Machine

/-! ### The tests of a buffer -/

/-- A buffer is full at `RING_CAP - 1` bytes, one slot of the ring staying free (R92, R93). -/
theorem ringFull_eq_decide (cfg : Cfg) (q : List Byte) : ringFull cfg q = decide (q.length = cfg.ringCap - 1) :=
  beq_eq_decide _ _

theorem isEmpty_eq_decide_length (q : List Byte) : q.isEmpty = decide (q.length = 0) := by
  rw [Bool.eq_iff_iff, List.isEmpty_iff_length_eq_zero, decide_eq_true_iff]

/-! ### The instructions -/

theorem exec_ibf (c : Channel) (s : State) :
    exec (.ibf c) s = .next { s with result := some (.bool (ringFull s.cfg (s.chan c).rxBuffer)) } := rfl

theorem exec_obe (c : Channel) (s : State) :
    exec (.obe c) s = .next { s with result := some (.bool (s.chan c).txBuffer.isEmpty) } := rfl

/-- Settles O57: each query writes only its result, and its test of the buffer is one of the buffer's length. -/
theorem bufferQueries : Obligations.BufferQueries := by
  intro c s
  constructor
  · rw [exec_ibf, ringFull_eq_decide]
  · rw [exec_obe, isEmpty_eq_decide_length]

end Sys2Proof.Machine
end

section
/-! The sticky register (R22, R303, R306, R307): what each shared operation does to it, what each instruction can clear in
it, and why a set bit outlives every instruction but those that clear that bit. That every bit of `p` is set in `q` is
written `p &&& q = p`, as in `OnlyRaises.stickyGrows`. -/

namespace Sys2Proof.Machine

/-! ### The operations that leave the sticky register alone -/

@[simp] theorem recomputeIrq_rr3 (s : State) : (recomputeIrq s).rr3 = s.rr3 := by
  rw [recomputeIrq_eq, withSticky_rr3]

@[simp] theorem recomputeTiming_rr3 (c : Channel) (s : State) : (recomputeTiming c s).rr3 = s.rr3 := by
  rw [recomputeTiming_eq, retimed_rr3]

@[simp] theorem ifFormat_rr3 (c : Channel) (i : RegNum) (s : State) : (ifFormat c i s).rr3 = s.rr3 := by
  rw [ifFormat_eq, retimedFor_rr3]

@[simp] theorem setRts_rr3 (c : Channel) (flag : Bool) (s : State) : (setRts c flag s).rr3 = s.rr3 := emit_rr3 _ s

@[simp] theorem consumePointer_rr3 (s : State) : (consumePointer s).rr3 = s.rr3 := rfl

@[simp] theorem returnByte_rr3 (v : Byte) (s : State) : (returnByte v s).rr3 = s.rr3 := rfl

@[simp] theorem readPlain_rr3 (v : Byte) (s : State) : (readPlain v s).rr3 = s.rr3 := rfl

@[simp] theorem storeCommand_rr3 (c : Channel) (rsv : BitVec 2) (cmd ptr : BitVec 3) (s : State) :
    (storeCommand c rsv cmd ptr s).rr3 = s.rr3 := updChan_rr3 s c _

@[simp] theorem storeReg_rr3 (c : Channel) (i : RegNum) (v : Byte) (s : State) : (storeReg c i v s).rr3 = s.rr3 :=
  updChan_rr3 _ c _

@[simp] theorem storeShared_rr3 (c : Channel) (i : RegNum) (v : Byte) (s : State) :
    (storeShared c i v s).rr3 = s.rr3 := by
  unfold storeShared; split <;> simp

/-! ### The operations that only set bits -/

/-- A check or a raise keeps the bits that are set in the register it starts from. -/
theorem OnlyRaises.keeps {c : Channel} {s t : State} {p : Byte} (h : OnlyRaises c s t) (hp : s.rr3 = p) :
    p &&& t.rr3 = p :=
  hp ▸ h.stickyGrows

/-- An `advance` sets sticky bits and clears none: its checks only raise (R231, R251, R253). -/
theorem chnAdvance_sticky_grows (c : Channel) (n : Nat) (s : State) : s.rr3 &&& (chnAdvance c n s).rr3 = s.rr3 := by
  rcases chnAdvance_cases c n s with ⟨_, h⟩ | ⟨_, h⟩ <;> rw [h]
  · simp
  · exact bits_trans ((onlyRaises_checkReceive c _).keeps (updChan_rr3 s c _)) (onlyRaises_checkTransmit c _).stickyGrows

/-- A line change stores the external-status byte and raises at most its own condition (R280). -/
theorem setExternalStatus_sticky_grows (c : Channel) (bit : Byte) (active : Bool) (s : State) :
    s.rr3 &&& (setExternalStatus c bit active s).rr3 = s.rr3 := by
  rcases setExternalStatus_cases c bit active s with ⟨_, h⟩ | ⟨_, h⟩ <;> rw [h]
  · simp
  · exact (onlyRaises_raise_ext c _).keeps (updChan_rr3 s c _)

/-! ### The operations that clear one bit first -/

/-- A data write clears the transmit bit of its channel; its transmit check only raises (R255). -/
theorem writeData_sticky (c : Channel) (v : Byte) (s : State) :
    s.rr3 &&& ~~~sticky c .tx &&& (writeData c v s).rr3 = s.rr3 &&& ~~~sticky c .tx := by
  rw [writeData_eq, retimedFor_rr3]
  exact (onlyRaises_checkTransmit c _).keeps (withSticky_rr3 _ _)

/-- A data read clears the receive bit of its channel; its receive check only raises (R256). -/
theorem readData_sticky (c : Channel) (s : State) :
    s.rr3 &&& ~~~sticky c .rx &&& (readData c s).rr3 = s.rr3 &&& ~~~sticky c .rx := by
  rw [readData_eq]
  exact (onlyRaises_checkReceive c _).keeps (withSticky_rr3 _ _)

/-! ### The instructions -/

/-- `i` completes from `s` and every bit of `p` is set in the sticky register after it. -/
def LeavesSet (i : Instr) (s : State) (p : Byte) : Prop := ∃ t, exec i s = .next t ∧ p &&& t.rr3 = p

theorem leavesSet_of_rr3_eq {i : Instr} {s t : State} (hexec : exec i s = .next t) (hrr3 : t.rr3 = s.rr3) :
    LeavesSet i s s.rr3 :=
  ⟨t, hexec, by rw [hrr3, BitVec.and_self]⟩

/-- What an instruction can do to the sticky register (last column of the table of R303): `reset` clears it; any other
instruction keeps every set bit, but for at most one that it is listed to clear. -/
theorem exec_sticky_cases (i : Instr) (s : State) :
    i = .rst ∨ LeavesSet i s s.rr3 ∨
      ∃ c k, clearsSticky c k i = true ∧ LeavesSet i s (s.rr3 &&& ~~~sticky c k) := by
  cases i with
  | rst => exact .inl rfl
  | wc0ResetExtStatusInt c _ _ =>
    exact .inr (.inr ⟨c, .ext, by simp [clearsSticky], _, rfl, by simp [clearCondition_ext]⟩)
  | wc0ResetTxIntPending c _ _ =>
    exact .inr (.inr ⟨c, .tx, by simp [clearsSticky], _, rfl, by simp [clearCondition_tx]⟩)
  | wd c v => exact .inr (.inr ⟨c, .tx, by simp [clearsSticky], _, rfl, writeData_sticky c v s⟩)
  | wcWR8 c v => exact .inr (.inr ⟨c, .tx, by simp [clearsSticky], _, rfl, writeData_sticky c v (consumePointer s)⟩)
  | rd c => exact .inr (.inr ⟨c, .rx, by simp [clearsSticky], _, rfl, readData_sticky c s⟩)
  | rcRR8 c => exact .inr (.inr ⟨c, .rx, by simp [clearsSticky], _, rfl, readData_sticky c (consumePointer s)⟩)
  | adv n =>
    exact .inr (.inl ⟨_, rfl, bits_trans (chnAdvance_sticky_grows .A n s) (chnAdvance_sticky_grows .B n _)⟩)
  | dcd c active => exact .inr (.inl ⟨_, rfl, setExternalStatus_sticky_grows c _ active s⟩)
  | cts c active => exact .inr (.inl ⟨_, rfl, setExternalStatus_sticky_grows c _ active s⟩)
  | wc0ErrorReset c rsv ptr =>
    exact .inr (.inl (leavesSet_of_rr3_eq rfl (by rw [ifFormat_rr3]; dsimp only; split <;> simp)))
  | wcWR5 c v => exact .inr (.inl (leavesSet_of_rr3_eq rfl (by rw [ifFormat_rr3]; split <;> simp)))
  | rxb c v => exact .inr (.inl (leavesSet_of_rr3_eq rfl (by split <;> [split; skip] <;> simp)))
  | txb c => exact .inr (.inl (leavesSet_of_rr3_eq rfl (by split <;> simp)))
  | _ => exact .inr (.inl (leavesSet_of_rr3_eq rfl (by simp)))

/-- The six sticky bits are six different bits (R22). -/
theorem sticky_disjoint {c c' : Channel} {k k' : Cond} (h : ¬ (c = c' ∧ k = k')) : sticky c k &&& sticky c' k' = 0#8 := by
  revert h
  cases c <;> cases c' <;> cases k <;> cases k' <;> decide

/-- A set bit is still set once a disjoint mask is cleared. -/
theorem bits_and_not_of_disjoint {w : Nat} {b m p : BitVec w} (hset : b &&& p = b) (hdisjoint : b &&& m = 0#w) :
    b &&& (p &&& ~~~m) = b := by
  have parts : b &&& ~~~m ||| b &&& m = b := by
    rw [← BitVec.and_or_distrib_left, BitVec.or_comm, BitVec.or_not_self, BitVec.and_allOnes]
  rw [hdisjoint, BitVec.or_zero] at parts
  rw [← BitVec.and_assoc, hset, parts]

/-- Settles O18: `reset` is among the clearing instructions; any other keeps the whole sticky register, or all of it but a
bit it is listed to clear, and that is not the bit in question. -/
theorem stickyBitStaysUntilCleared : Obligations.StickyBitStaysUntilCleared := by
  intro i c k s t hset hkeeps hexec
  rw [BitVec.and_comm] at hset ⊢
  have outlives {p : Byte} (hp : sticky c k &&& p = sticky c k) (hleaves : LeavesSet i s p) :
      sticky c k &&& t.rr3 = sticky c k := by
    obtain ⟨u, hu, hgrows⟩ := hleaves
    obtain rfl : u = t := Host.Outcome.next.inj (hu.symm.trans hexec)
    exact bits_trans hp hgrows
  rcases exec_sticky_cases i s with rfl | hall | ⟨c', k', hclears, hbut⟩
  · cases k <;> cases hkeeps
  · exact outlives hset hall
  · have hother : ¬ (c = c' ∧ k = k') := by
      rintro ⟨rfl, rfl⟩
      rw [hkeeps] at hclears
      cases hclears
    exact outlives (bits_and_not_of_disjoint hset (sticky_disjoint hother)) hbut

end Sys2Proof.Machine
end

section
/-! The divisor formula (R241, R243): a bit time is even and at least 4 units whatever the `decode` functions are, so
that halving the sum is exact and a character takes at least one unit; the values under the defaults. -/

namespace Sys2Proof.Machine

theorem ClockMultiplier.one_le_toNat (m : ClockMultiplier) : 1 ≤ m.toNat := by cases m <;> decide

theorem ClockMultiplier.toNat_le (m : ClockMultiplier) : m.toNat ≤ 64 := by cases m <;> decide

theorem one_le_formatMult (cfg : Cfg) (ch : ChannelState) : 1 ≤ formatMult cfg ch := by
  unfold formatMult
  split
  · exact le_refl 1
  · exact ClockMultiplier.one_le_toNat _

theorem formatMult_le (cfg : Cfg) (ch : ChannelState) : formatMult cfg ch ≤ 64 := by
  unfold formatMult
  split
  · decide
  · exact ClockMultiplier.toNat_le _

theorem timeConstant_lt (cfg : Cfg) (w12 w13 : Byte) : timeConstant cfg w12 w13 < 65536 := by
  unfold timeConstant
  split <;> exact BitVec.isLt _

/-- A bit time is twice a whole number of clock units, which is at least 2 (R241). -/
theorem divisorRaw_eq_two_mul (cfg : Cfg) (ch : ChannelState) : ∃ half, 2 ≤ half ∧ divisorRaw cfg ch = 2 * half := by
  refine ⟨formatMult cfg ch * (timeConstant cfg (ch.wr 12) (ch.wr 13) + 2), ?_, Nat.mul_assoc _ _ _⟩
  exact Nat.mul_le_mul (one_le_formatMult cfg ch) (Nat.le_add_left 2 _)

theorem four_le_divisorRaw (cfg : Cfg) (ch : ChannelState) : 4 ≤ divisorRaw cfg ch := by
  obtain ⟨half, hhalf, heq⟩ := divisorRaw_eq_two_mul cfg ch
  omega

/-- The longest bit time: multiplier 64 and time constant 65535 (R243). -/
theorem divisorRaw_le (cfg : Cfg) (ch : ChannelState) : divisorRaw cfg ch ≤ 8388736 := by
  have htc := timeConstant_lt cfg (ch.wr 12) (ch.wr 13)
  calc divisorRaw cfg ch ≤ 2 * 64 * 65537 :=
        Nat.mul_le_mul (Nat.mul_le_mul_left 2 (formatMult_le cfg ch)) (by omega)
    _ = 8388736 := rfl

/-- With the generator off a character takes 16384 units and the rate is 0 (R241). -/
theorem newDivisor_of_disabled {cfg : Cfg} {ch : ChannelState} (h : brgEnabled cfg (ch.wr 14) = false) :
    newDivisor cfg ch = 16384 := by simp [newDivisor, h]

theorem newBps_of_disabled {cfg : Cfg} {ch : ChannelState} (c : Channel) (h : brgEnabled cfg (ch.wr 14) = false) :
    newBps cfg c ch = 0 := by simp [newBps, h]

/-- Halving the sum of R241 loses nothing, the bit time being even. -/
theorem two_mul_newDivisor {cfg : Cfg} {ch : ChannelState} (h : brgEnabled cfg (ch.wr 14) = true) :
    2 * newDivisor cfg ch =
      (2 * bitsPerCharOf cfg (ch.wr 3) (ch.wr 5) + stopBitsX2Of cfg (ch.wr 4) + 2) * divisorRaw cfg ch
        + (if parityOf cfg (ch.wr 4) = .none then 0 else 2 * divisorRaw cfg ch) := by
  obtain ⟨half, _, heq⟩ := divisorRaw_eq_two_mul cfg ch
  have hdvd : 2 ∣ (2 * bitsPerCharOf cfg (ch.wr 3) (ch.wr 5) + stopBitsX2Of cfg (ch.wr 4) + 2) * divisorRaw cfg ch :=
    Dvd.dvd.mul_left ⟨half, heq⟩ _
  simp only [newDivisor, h, if_true, Nat.mul_add, Nat.mul_div_cancel' hdvd]
  split <;> rfl

/-- A character takes some time, whatever the registers and the `decode` functions are (R59). -/
theorem one_le_newDivisor (cfg : Cfg) (ch : ChannelState) : 1 ≤ newDivisor cfg ch := by
  cases h : brgEnabled cfg (ch.wr 14) with
  | false => rw [newDivisor_of_disabled h]; decide
  | true =>
    have hraw := four_le_divisorRaw cfg ch
    have hsum : 2 * divisorRaw cfg ch ≤ 2 * newDivisor cfg ch := by
      rw [two_mul_newDivisor h]
      exact Nat.le_add_right_of_le (Nat.mul_le_mul_right _ (Nat.le_add_left 2 _))
    omega

/-! ### The ranges of the default `decode` (R235, R237) -/

theorem bitsPerCharOf_default {cfg : Cfg} (h : cfg.decode = DecodeChoice.allDefault) (w3 w5 : Byte) :
    5 ≤ bitsPerCharOf cfg w3 w5 ∧ bitsPerCharOf cfg w3 w5 ≤ 8 := by
  rw [bitsPerCharOf, h]
  show 5 ≤ defaultBitsPerCharOf w3 w5 ∧ defaultBitsPerCharOf w3 w5 ≤ 8
  unfold defaultBitsPerCharOf
  split <;> decide

theorem StopBits.x2_le (b : StopBits) : b.x2 ≤ 4 := by cases b <;> decide

theorem stopBitsX2Of_le (cfg : Cfg) (w4 : Byte) : stopBitsX2Of cfg w4 ≤ 4 := by
  unfold stopBitsX2Of
  split <;> exact StopBits.x2_le _

/-- Under the default `decode` a character takes from 24 to 100,664,832 units (R49). -/
theorem newDivisor_range_default {cfg : Cfg} (hdec : cfg.decode = DecodeChoice.allDefault) (ch : ChannelState) :
    24 ≤ newDivisor cfg ch ∧ newDivisor cfg ch ≤ 100664832 := by
  cases h : brgEnabled cfg (ch.wr 14) with
  | false => rw [newDivisor_of_disabled h]; decide
  | true =>
    obtain ⟨hbits5, hbits8⟩ := bitsPerCharOf_default hdec (ch.wr 3) (ch.wr 5)
    have hstop := stopBitsX2Of_le cfg (ch.wr 4)
    have hraw4 := four_le_divisorRaw cfg ch
    have hraw := divisorRaw_le cfg ch
    have htwice := two_mul_newDivisor h
    have hlow : 12 * 4 ≤
        (2 * bitsPerCharOf cfg (ch.wr 3) (ch.wr 5) + stopBitsX2Of cfg (ch.wr 4) + 2) * divisorRaw cfg ch :=
      Nat.mul_le_mul (by omega) hraw4
    have hhigh : (2 * bitsPerCharOf cfg (ch.wr 3) (ch.wr 5) + stopBitsX2Of cfg (ch.wr 4) + 2) * divisorRaw cfg ch ≤
        22 * 8388736 := Nat.mul_le_mul (by omega) hraw
    split at htwice <;> omega

/-- Settles O36: the bit time is even and positive, so halving is exact and the rate is a quotient with remainder. -/
theorem divisorFormulaExact : Obligations.DivisorFormulaExact := by
  intro cfg c ch bits sb2 mult raw
  have hpos : 0 < raw := Nat.lt_of_lt_of_le (by decide) (four_le_divisorRaw cfg ch)
  refine ⟨four_le_divisorRaw cfg ch, ?_, fun h => ⟨two_mul_newDivisor h, ?_⟩,
    fun h => ⟨newDivisor_of_disabled h, newBps_of_disabled c h⟩, fun hdec => newDivisor_range_default hdec ch⟩
  · obtain ⟨half, _, heq⟩ := divisorRaw_eq_two_mul cfg ch
    calc raw % 2 = 2 * half % 2 := congrArg (· % 2) heq
      _ = 0 := Nat.mul_mod_right 2 half
  · have hbps : newBps cfg c ch = clockRate cfg c (ch.wr 14) / raw := by
      rw [newBps, h, if_pos rfl]
      rfl
    rw [hbps]
    exact ⟨Nat.div_mul_le_self _ _, Nat.lt_mul_of_div_lt (Nat.lt_succ_self _) hpos⟩

/-- The default `bits_per_char_of` does not read WR3 (R237). -/
theorem bitsPerCharOf_ref (w3 w5 : Byte) : bitsPerCharOf Cfg.ref w3 w5 = defaultBitsPerCharOf 0#8 w5 := rfl

/-- Settles O37: the channel's registers being numbers, each value is computed from them. -/
theorem divisorTableValues : Obligations.DivisorTableValues := by
  have off (c : Channel) (ch : ChannelState) (h : (ch.wr 14).getLsbD 0 = false) :
      newDivisor Cfg.ref ch = 16384 ∧ newBps Cfg.ref c ch = 0 :=
    ⟨newDivisor_of_disabled h, newBps_of_disabled c h⟩
  refine ⟨?_, ?_, ?_, ?_, ?_, ?_, ?_, ?_, ?_, ?_, off⟩ <;>
    · intro ch h4 h5 h12 h13 h14
      simp only [newDivisor, newBps, divisorRaw, formatMult, bitsPerCharOf_ref, h4, h5, h12, h13, h14]
      decide

end Sys2Proof.Machine
end

section
/-! What every instruction but `reset` keeps (R20, R41, R55 to R59, R254, R320, R324): said once for each shared
operation as a relation between the state before and the state after, which sequences compose; then for each
instruction. -/

namespace Sys2Proof.Machine

/-! ### Masks that are different single bits (R5: P10 to P16) -/

theorem isSingleBit_iff_shift : ∀ m : Byte, isSingleBit m = true → ∃ k : Fin 8, m = 1#8 <<< k.val := by decide

theorem shift_and_shift : ∀ k l : Fin 8, 1#8 <<< k.val ≠ 1#8 <<< l.val → 1#8 <<< k.val &&& 1#8 <<< l.val = 0#8 := by
  decide

/-- Two different single bits have no bit in common. -/
theorem and_eq_zero_of_isSingleBit {a b : Byte} (ha : isSingleBit a = true) (hb : isSingleBit b = true) (hne : a ≠ b) :
    a &&& b = 0#8 := by
  obtain ⟨k, rfl⟩ := isSingleBit_iff_shift a ha
  obtain ⟨l, rfl⟩ := isSingleBit_iff_shift b hb
  exact shift_and_shift k l hne

/-- The two input lines stand in other bits of the external-status byte than the underrun (P12 to P14). -/
theorem Cfg.lines_and_underrun {cfg : Cfg} (h : cfg.wellFormed = true) :
    cfg.rr0Dcd &&& cfg.rr0Underrun = 0#8 ∧ cfg.rr0Cts &&& cfg.rr0Underrun = 0#8 := by
  simp only [Cfg.wellFormed, Cfg.rr0MasksOk, Bool.and_eq_true, decide_eq_true_eq, List.all_cons, List.nodup_cons,
    List.mem_cons, not_or] at h
  obtain ⟨⟨⟨⟨_, ⟨_, _, hdcd, hcts, hunderrun, _⟩, _, _, ⟨_, hdu, _⟩, ⟨hcu, _⟩, _⟩, _⟩, _⟩, _⟩ := h
  exact ⟨and_eq_zero_of_isSingleBit hdcd hunderrun hdu, and_eq_zero_of_isSingleBit hcts hunderrun hcu⟩

/-- The overrun bit is another bit of RR1 than All-Sent (P15, P16). -/
theorem Cfg.overrun_and_allSent {cfg : Cfg} (h : cfg.wellFormed = true) : cfg.rr1Overrun &&& cfg.rr1AllSent = 0#8 := by
  simp only [Cfg.wellFormed, Cfg.rr1MasksOk, Bool.and_eq_true, bne_iff_ne] at h
  obtain ⟨⟨⟨_, ⟨hsent, hover⟩, hne⟩, _⟩, _⟩ := h
  exact and_eq_zero_of_isSingleBit hover hsent hne.symm

theorem self_and_not_or (a b : Byte) : a &&& ~~~(a ||| b) = 0#8 := by
  rw [BitVec.not_or, ← BitVec.and_assoc]
  simp

/-- Both lines are external-status bits (R5). -/
theorem dcd_subset_extMask (cfg : Cfg) : cfg.rr0Dcd &&& ~~~extMask cfg = 0#8 := by
  rw [extMask, BitVec.or_assoc, self_and_not_or]

theorem cts_subset_extMask (cfg : Cfg) : cfg.rr0Cts &&& ~~~extMask cfg = 0#8 := by
  rw [extMask, BitVec.or_comm cfg.rr0Dcd, BitVec.or_assoc, self_and_not_or]

/-- Clearing one mask leaves the bits of a disjoint one. -/
theorem clear_and_of_disjoint {x m k : Byte} (h : m &&& k = 0#8) : x &&& ~~~m &&& k = x &&& k := by
  have hk : k &&& ~~~m = k := by
    calc k &&& ~~~m = k &&& (k &&& ~~~m) := by rw [← BitVec.and_assoc, BitVec.and_self]
      _ = k := bits_and_not_of_disjoint (BitVec.and_self) (by rw [BitVec.and_comm, h])
  rw [BitVec.and_assoc, BitVec.and_comm (~~~m), hk]

theorem or_and_of_disjoint {x m k : Byte} (h : m &&& k = 0#8) : (x ||| m) &&& k = x &&& k := by
  rw [BitVec.and_comm, BitVec.and_or_distrib_left, BitVec.and_comm k m, h, BitVec.or_zero, BitVec.and_comm]

/-! ### What is kept of a channel's record -/

/-- The record `ch'` of channel `c` keeps what every operation but `reset` keeps of `ch`: the invariants (R58, R59), a
set underrun bit (R254), and All-Sent (R41). -/
structure RecordKept (cfg : Cfg) (c : Channel) (ch ch' : ChannelState) : Prop where
  ok : ch.Ok cfg c → ch'.Ok cfg c
  underrun : cfg.wellFormed = true → ch.rrs 0 &&& cfg.rr0Underrun ≠ 0#8 → ch'.rrs 0 &&& cfg.rr0Underrun ≠ 0#8
  allSent : cfg.wellFormed = true → ch.rrs 1 &&& cfg.rr1AllSent = cfg.rr1AllSent →
    ch'.rrs 1 &&& cfg.rr1AllSent = cfg.rr1AllSent

theorem RecordKept.refl (cfg : Cfg) (c : Channel) (ch : ChannelState) : RecordKept cfg c ch ch :=
  ⟨id, fun _ => id, fun _ => id⟩

theorem RecordKept.trans {cfg : Cfg} {c : Channel} {ch ch' ch'' : ChannelState} (h1 : RecordKept cfg c ch ch')
    (h2 : RecordKept cfg c ch' ch'') : RecordKept cfg c ch ch'' :=
  ⟨h2.ok ∘ h1.ok, fun h => h2.underrun h ∘ h1.underrun h, fun h => h2.allSent h ∘ h1.allSent h⟩

/-- The stored read registers being the same, the invariants are all there is to keep. -/
theorem RecordKept.of_ok {cfg : Cfg} {c : Channel} {ch ch' : ChannelState} (hregs : ch'.readRegs = ch.readRegs)
    (hok : ch.Ok cfg c → ch'.Ok cfg c) : RecordKept cfg c ch ch' := by
  have hrrs (i : RegNum) : ch'.rrs i = ch.rrs i := congrArg (·.get i) hregs
  exact ⟨hok, fun _ => hrrs 0 ▸ id, fun _ => hrrs 1 ▸ id⟩

/-- No invariant speaks of a write register. -/
theorem recordKept_setWr (cfg : Cfg) (c : Channel) (i : RegNum) (v : Byte) (ch : ChannelState) :
    RecordKept cfg c ch (ch.setWr i v) := .of_ok rfl id

/-- The counter is reloaded with the divisor, which is at least 1 (R59, R241). -/
theorem recordKept_retimed (cfg : Cfg) (c : Channel) (ch : ChannelState) : RecordKept cfg c ch (ch.retimed cfg c) := by
  refine .of_ok rfl fun hok => ?_
  obtain ⟨hrx, htx, _, _, _, hkept⟩ := hok
  exact ⟨hrx, htx, one_le_newDivisor cfg ch, one_le_newDivisor cfg ch, le_refl _, hkept⟩

/-- The external-status byte holds lines and the underrun only, and moving a line leaves the underrun (R280). -/
theorem recordKept_lineByte {cfg : Cfg} (c : Channel) {bit : Byte} (active : Bool) (ch : ChannelState)
    (hbit : bit &&& ~~~extMask cfg = 0#8) (hline : cfg.wellFormed = true → bit &&& cfg.rr0Underrun = 0#8) :
    RecordKept cfg c ch (ch.setRrs 0 (lineByte cfg bit (ch.rrs 0) active)) where
  ok := by
    rintro ⟨hrx, htx, hdiv, hpos, hcount, hread, hwrite, hlatch, hext, hrr1, hunused⟩
    refine ⟨hrx, htx, hdiv, hpos, hcount, hread, hwrite, hlatch, ?_, by simpa using hrr1, fun i h0 h1 h8 => ?_⟩
    · rw [rrs_setRrs, if_pos rfl, lineByte]
      split
      · exact or_mask_clear _ _ _ hext hbit
      · rw [BitVec.and_assoc, BitVec.and_comm (~~~bit), ← BitVec.and_assoc, hext, BitVec.zero_and]
    · rw [rrs_setRrs, if_neg h0, hunused i h0 h1 h8]
  underrun := by
    intro hwf h
    rw [rrs_setRrs, if_pos rfl, lineByte]
    split
    · rwa [or_and_of_disjoint (hline hwf)]
    · rwa [clear_and_of_disjoint (hline hwf)]
  allSent := fun _ h => by simpa using h

/-- A change of the overrun bit of RR1 leaves All-Sent (R150, R290). -/
theorem recordKept_rr1 {cfg : Cfg} (c : Channel) {x : Byte} (ch : ChannelState)
    (hx : x = ch.rrs 1 ||| cfg.rr1Overrun ∨ x = ch.rrs 1 &&& ~~~cfg.rr1Overrun) :
    RecordKept cfg c ch (ch.setRrs 1 x) where
  ok := by
    rintro ⟨hrx, htx, hdiv, hpos, hcount, hread, hwrite, hlatch, hext, hrr1, hunused⟩
    refine ⟨hrx, htx, hdiv, hpos, hcount, hread, hwrite, hlatch, by simpa using hext, ?_, fun i h0 h1 h8 => ?_⟩
    · rw [rrs_setRrs, if_pos rfl]
      rcases hx with rfl | rfl
      · exact or_mask_clear _ _ _ hrr1 (by rw [BitVec.or_comm, self_and_not_or])
      · rw [BitVec.and_assoc, BitVec.and_comm (~~~_), ← BitVec.and_assoc, hrr1, BitVec.zero_and]
    · rw [rrs_setRrs, if_neg h1, hunused i h0 h1 h8]
  underrun := fun _ h => by simpa using h
  allSent := by
    intro hwf h
    rw [rrs_setRrs, if_pos rfl]
    rcases hx with rfl | rfl
    · rwa [or_and_of_disjoint (Cfg.overrun_and_allSent hwf)]
    · rwa [clear_and_of_disjoint (Cfg.overrun_and_allSent hwf)]

/-- The checks and raises keep a channel's record well: what they may touch of it grows within its bounds. -/
theorem OnlyRaises.recordKept {c : Channel} {s t : State} (h : OnlyRaises c s t) :
    RecordKept s.cfg c (s.chan c) (t.chan c) where
  ok := by
    rintro ⟨hrx, htx, hdiv, hpos, hcount, hread, hwrite, hlatch, hext, hrr1, hunused⟩
    obtain ⟨k, _, hbuffer⟩ := h.rxBuffer
    refine ⟨?_, h.txRoom htx, by rwa [h.divisor], by rwa [h.counter], by rwa [h.counter, h.divisor],
      h.readQuota.trans hread, h.writeQuota.trans hwrite, h.latchMask hlatch, h.rr0Mask hext,
      by rwa [h.readRegs 1 (by decide) (by decide)], fun i h0 h1 h8 => by rw [h.readRegs i h0 h8, hunused i h0 h1 h8]⟩
    rw [hbuffer, List.length_drop]
    omega
  underrun := by
    intro _ hset hclear
    apply hset
    rw [← h.rr0Grows, BitVec.and_assoc, hclear, BitVec.and_zero]
  allSent := fun _ hset => by rwa [h.readRegs 1 (by decide) (by decide)]

/-! ### What is kept of the chip -/

/-- `t` keeps what every operation but `reset` keeps of `s`: the wiring and the operations still to be run (R20,
R350), the invariants of the chip (R56, R57), and of each channel's record what `RecordKept` says. -/
structure Kept (s t : State) : Prop where
  cfg : t.cfg = s.cfg
  inbox : t.inbox = s.inbox
  lifecycle : t.lifecycle = s.lifecycle
  topBits : s.rr3 &&& 0xC0#8 = 0#8 → t.rr3 &&& 0xC0#8 = 0#8
  irqLine : s.irqLine = irqLevel s → t.irqLine = irqLevel t
  record : ∀ d, RecordKept s.cfg d (s.chan d) (t.chan d)

theorem Kept.trans {s t u : State} (h1 : Kept s t) (h2 : Kept t u) : Kept s u where
  cfg := h2.cfg.trans h1.cfg
  inbox := h2.inbox.trans h1.inbox
  lifecycle := h2.lifecycle.trans h1.lifecycle
  topBits := h2.topBits ∘ h1.topBits
  irqLine := h2.irqLine ∘ h1.irqLine
  record := fun d => (h1.record d).trans (h1.cfg ▸ h2.record d)

theorem Kept.inv {s t : State} (h : Kept s t) (hs : s.Inv) : t.Inv := by
  obtain ⟨htop, hline, hA, hB⟩ := hs
  exact ⟨h.topBits htop, h.irqLine hline, h.cfg ▸ (h.record .A).ok hA, h.cfg ▸ (h.record .B).ok hB⟩

/-- `t` comes from `s` by effects on channel `c`: all is kept, and the other channel's record is the same (R324). -/
structure Contained (c : Channel) (s t : State) : Prop extends Kept s t where
  other : t.chan (otherChannel c) = s.chan (otherChannel c)

theorem Contained.trans {c : Channel} {s t u : State} (h1 : Contained c s t) (h2 : Contained c t u) :
    Contained c s u :=
  ⟨h1.toKept.trans h2.toKept, h2.other.trans h1.other⟩

theorem eq_or_eq_otherChannel (c d : Channel) : d = c ∨ d = otherChannel c := by
  cases c <;> cases d <;> simp [otherChannel]

/-- What is to be shown of an effect on channel `c` that leaves the wiring, the inbox and the other channel alone. -/
theorem Contained.of_record {c : Channel} {s t : State} (hcfg : t.cfg = s.cfg) (hinbox : t.inbox = s.inbox)
    (hlife : t.lifecycle = s.lifecycle) (hother : t.chan (otherChannel c) = s.chan (otherChannel c))
    (htop : s.rr3 &&& 0xC0#8 = 0#8 → t.rr3 &&& 0xC0#8 = 0#8) (hline : s.irqLine = irqLevel s → t.irqLine = irqLevel t)
    (hrecord : RecordKept s.cfg c (s.chan c) (t.chan c)) : Contained c s t := by
  refine ⟨⟨hcfg, hinbox, hlife, htop, hline, fun d => ?_⟩, hother⟩
  rcases eq_or_eq_otherChannel c d with rfl | rfl
  · exact hrecord
  · rw [hother]
    exact RecordKept.refl _ _ _

/-! ### The shared operations -/

theorem OnlyRaises.contained {c : Channel} {s t : State} (h : OnlyRaises c s t) : Contained c s t :=
  .of_record h.cfg h.inbox h.lifecycle h.otherChan (fun htop => h.topBits.trans htop) h.irqLine h.recordKept

/-- A change of one channel's record that leaves WR9 alone leaves the level of the IRQ line (R308). -/
theorem contained_updChan {c : Channel} {s : State} {f : ChannelState → ChannelState}
    (hrecord : RecordKept s.cfg c (s.chan c) (f (s.chan c))) (h9 : (f (s.chan c)).wr 9 = (s.chan c).wr 9) :
    Contained c s (s.updChan c f) := by
  refine .of_record (by simp) (by simp) (by simp) (by simp) (by simp) (fun hline => ?_) (by simpa using hrecord)
  have hmie : (s.updChan c f).mie = s.mie := by
    cases c with
    | A => exact congrArg (·.getLsbD 3) h9
    | B => rfl
  rw [irqLevel, hmie, updChan_rr3, updChan_irqLine, hline, irqLevel]

/-- The pointer, the events and the value returned are in no invariant. -/
theorem contained_interface (c : Channel) (s : State) (p : BitVec 4) (es : List Event) (r : Option Value) :
    Contained c s { s with controlIndex := p, events := es, result := r } :=
  .of_record rfl rfl rfl (by cases c <;> rfl) id id (by cases c <;> exact RecordKept.refl _ _ _)

/-- The sticky register without its undefined bits, the line brought up to date (R56, R57, R308). -/
theorem contained_withSticky (c : Channel) {s : State} {p : Byte} (hp : s.rr3 &&& 0xC0#8 = 0#8 → p &&& 0xC0#8 = 0#8) :
    Contained c s (s.withSticky p) :=
  .of_record rfl rfl rfl (by simp) hp (fun _ => rfl) (by rw [withSticky_chan]; exact RecordKept.refl _ _ _)

theorem contained_clearSticky (c : Channel) (s : State) (m : Byte) : Contained c s (s.withSticky (s.rr3 &&& ~~~m)) := by
  refine contained_withSticky c fun htop => ?_
  rw [BitVec.and_assoc, BitVec.and_comm (~~~m), ← BitVec.and_assoc, htop, BitVec.zero_and]

theorem contained_retimed (c : Channel) (s : State) : Contained c s (s.retimed c) :=
  (contained_updChan (recordKept_retimed s.cfg c _) rfl).trans (contained_interface c _ _ _ _)

theorem contained_ifFormat (c : Channel) (i : RegNum) (s : State) : Contained c s (ifFormat c i s) := by
  unfold ifFormat
  split
  · rw [recomputeTiming_eq]
    exact contained_retimed c s
  · exact (contained_interface c s _ _ _)

theorem contained_clearCondition_tx (c : Channel) (s : State) : Contained c s (clearCondition c { tx := true } s) :=
  clearCondition_tx c s ▸ contained_clearSticky c s _

theorem contained_clearCondition_ext (c : Channel) (s : State) :
    Contained c s (clearCondition c { ext := true } s) := by
  have hrelease : Contained c s (s.updChan c fun ch => { ch with statusLatchMask := 0#8 }) := by
    refine contained_updChan (.of_ok rfl fun hok => ?_) rfl
    obtain ⟨hrx, htx, hdiv, hpos, hcount, hread, hwrite, _, hkept⟩ := hok
    exact ⟨hrx, htx, hdiv, hpos, hcount, hread, hwrite, BitVec.zero_and, hkept⟩
  have hclear := contained_clearSticky c (s.updChan c fun ch => { ch with statusLatchMask := 0#8 }) (sticky c .ext)
  rw [updChan_rr3] at hclear
  rw [clearCondition_ext]
  exact hrelease.trans hclear

/-- A store into any register but WR9. -/
theorem contained_setWr (c : Channel) {i : RegNum} (hi : i ≠ 9) (v : Byte) (s : State) :
    Contained c s (s.updChan c fun ch => ch.setWr i v) :=
  contained_updChan (recordKept_setWr s.cfg c i v _) (by rw [wr_setWr, if_neg hi.symm])

@[simp] theorem storeCommand_cfg (c : Channel) (rsv : BitVec 2) (cmd ptr : BitVec 3) (s : State) :
    (storeCommand c rsv cmd ptr s).cfg = s.cfg := updChan_cfg s c _

theorem contained_storeCommand (c : Channel) (rsv : BitVec 2) (cmd ptr : BitVec 3) (s : State) :
    Contained c s (storeCommand c rsv cmd ptr s) :=
  (contained_setWr c (by decide) _ s).trans (contained_interface c _ _ _ _)

theorem contained_consumePointer (c : Channel) (s : State) : Contained c s (consumePointer s) :=
  contained_interface c s _ _ _

theorem contained_returnByte (c : Channel) (v : Byte) (s : State) : Contained c s (returnByte v s) :=
  contained_interface c s _ _ _

theorem contained_readPlain (c : Channel) (v : Byte) (s : State) : Contained c s (readPlain v s) :=
  contained_interface c s _ _ _

theorem contained_setRts (c : Channel) (flag : Bool) (s : State) : Contained c s (setRts c flag s) :=
  (onlyRaises_emit c _ s).contained

theorem contained_storeReg (c : Channel) {i : RegNum} (hi : i ≠ 9) (v : Byte) (s : State) :
    Contained c s (storeReg c i v s) :=
  (contained_consumePointer c s).trans (contained_setWr c hi v _)

theorem contained_writeData (c : Channel) (v : Byte) (s : State) : Contained c s (writeData c v s) :=
  have hstored : Contained c s (s.updChan c fun ch => { ch.setWr 8 v with txdEmpty := false }) :=
    contained_updChan (.of_ok rfl id) (by simp)
  ((hstored.trans (contained_clearCondition_tx c _)).trans (onlyRaises_checkTransmit c _).contained).trans
    (contained_ifFormat c 8 _)

theorem contained_readData (c : Channel) (s : State) : Contained c s (readData c s) := by
  have hemptied : Contained c s (s.updChan c fun ch => { ch with rxdEmpty := true }) :=
    contained_updChan (.of_ok rfl id) rfl
  have hcleared := contained_clearSticky c (s.updChan c fun ch => { ch with rxdEmpty := true }) (sticky c .rx)
  rw [updChan_rr3] at hcleared
  rw [readData_eq]
  exact (hemptied.trans hcleared).trans (onlyRaises_checkReceive c _).contained

/-- The counter after a tick is between 1 and the divisor (R231). -/
theorem tick_counter_bounds {d m : Nat} (hd : 1 ≤ d) : 1 ≤ d - m % d ∧ d - m % d ≤ d := by
  have := Nat.mod_lt m hd
  omega

theorem contained_chnAdvance (c : Channel) (n : Nat) (s : State) : Contained c s (chnAdvance c n s) := by
  rcases chnAdvance_cases c n s with ⟨hn, h⟩ | ⟨_, h⟩ <;> rw [h]
  · refine contained_updChan (.of_ok rfl fun hok => ?_) rfl
    obtain ⟨hrx, htx, hdiv, hpos, hcount, hkept⟩ := hok
    exact ⟨hrx, htx, hdiv, Nat.sub_pos_of_lt hn, (Nat.sub_le _ _).trans hcount, hkept⟩
  · refine (Contained.trans (contained_updChan (.of_ok rfl fun hok => ?_) rfl)
      (onlyRaises_checkReceive c _).contained).trans (onlyRaises_checkTransmit c _).contained
    obtain ⟨hrx, htx, hdiv, _, _, _, _, hkept⟩ := hok
    obtain ⟨hlow, hhigh⟩ := tick_counter_bounds (m := n - (s.chan c).charClockCounter) hdiv
    exact ⟨hrx, htx, hdiv, hlow, hhigh, le_refl _, le_refl _, hkept⟩

theorem contained_setExternalStatus (c : Channel) {bit : Byte} (active : Bool) {s : State}
    (hbit : bit &&& ~~~extMask s.cfg = 0#8) (hline : s.cfg.wellFormed = true → bit &&& s.cfg.rr0Underrun = 0#8) :
    Contained c s (setExternalStatus c bit active s) := by
  have hmoved : Contained c s (s.updChan c fun ch => ch.setRrs 0 (lineByte s.cfg bit ((s.chan c).rrs 0) active)) :=
    contained_updChan (recordKept_lineByte c active _ hbit hline) rfl
  rcases setExternalStatus_cases c bit active s with ⟨_, h⟩ | ⟨_, h⟩ <;> rw [h]
  · exact hmoved
  · exact hmoved.trans (onlyRaises_raise_ext c _).contained

/-- A store into a register that may be mirrored changes write registers and the pointer alone, in either bank (R186).
-/
theorem recordKept_storeShared (c : Channel) (i : RegNum) (v : Byte) (s : State) (d : Channel) :
    RecordKept s.cfg d (s.chan d) ((storeShared c i v s).chan d) := by
  have hset := recordKept_setWr s.cfg d i v (s.chan d)
  have hsame := RecordKept.refl s.cfg d (s.chan d)
  unfold storeShared
  split <;> cases c <;> cases d
  · exact hset
  · exact hset
  · exact hset
  · exact hset
  · exact hset
  · exact hsame
  · exact hsame
  · exact hset

@[simp] theorem storeShared_cfg (c : Channel) (i : RegNum) (v : Byte) (s : State) :
    (storeShared c i v s).cfg = s.cfg := by
  unfold storeShared
  split <;> simp

theorem storeShared_inbox (c : Channel) (i : RegNum) (v : Byte) (s : State) :
    (storeShared c i v s).inbox = s.inbox := by
  unfold storeShared
  split <;> simp [storeReg_eq]

theorem storeShared_lifecycle (c : Channel) (i : RegNum) (v : Byte) (s : State) :
    (storeShared c i v s).lifecycle = s.lifecycle := by
  unfold storeShared
  split <;> simp [storeReg_eq]

/-- A write of WR9, in its own bank or in both, ends with the IRQ line brought up to date (R178, R186). -/
theorem kept_storeShared_recomputeIrq (c : Channel) (i : RegNum) (v : Byte) (s : State) :
    Kept s (recomputeIrq (storeShared c i v s)) := by
  rw [recomputeIrq_eq]
  refine ⟨storeShared_cfg c i v s, ?_, ?_, ?_, fun _ => rfl, fun d => ?_⟩
  · exact storeShared_inbox c i v s
  · exact storeShared_lifecycle c i v s
  · rw [withSticky_rr3, storeShared_rr3]
    exact id
  · rw [withSticky_chan]
    exact recordKept_storeShared c i v s d

/-- A store into a register but WR9 that may be mirrored. -/
theorem kept_storeShared (c : Channel) {i : RegNum} (hi : i ≠ 9) (v : Byte) (s : State) :
    Kept s (storeShared c i v s) := by
  unfold storeShared
  split
  · exact (contained_storeReg .A hi v s).toKept.trans (contained_storeReg .B hi v _).toKept
  · exact (contained_storeReg c hi v s).toKept

/-- Without the mirror the other bank is left alone (P23). -/
theorem storeShared_other {s : State} (h : ¬ s.cfg.sharedWrMirror = true) (c : Channel) (i : RegNum) (v : Byte) :
    (storeShared c i v s).chan (otherChannel c) = s.chan (otherChannel c) := by
  rw [storeShared, if_neg h]
  exact chan_other_updChan _ c _

/-! ### The instructions -/

/-- A write of WR5 may report RTS between the store and the timing (R175). -/
theorem contained_execWcWR5 (c : Channel) (v : Byte) (s : State) :
    ∃ t, exec (.wcWR5 c v) s = .next t ∧ Contained c s t := by
  refine ⟨_, rfl, Contained.trans ?_ (contained_ifFormat c 5 _)⟩
  have hstored := contained_storeReg c (i := 5) (by decide) v s
  split
  · exact hstored.trans (contained_setRts c _ _)
  · exact hstored

/-- Command 6 may clear the overrun bit between the store and the timing (R150). -/
theorem contained_execWc0ErrorReset (c : Channel) (rsv : BitVec 2) (ptr : BitVec 3) (s : State) :
    ∃ t, exec (.wc0ErrorReset c rsv ptr) s = .next t ∧ Contained c s t := by
  refine ⟨_, rfl, Contained.trans ?_ (contained_ifFormat c 0 _)⟩
  have hstored := contained_storeCommand c rsv 6#3 ptr s
  dsimp only
  split
  · exact hstored.trans (contained_updChan (recordKept_rr1 c _ (.inr (by rw [storeCommand_cfg]))) rfl)
  · exact hstored

/-- A byte is queued only where there is room (R290). -/
theorem contained_execRxb (c : Channel) (v : Byte) (s : State) :
    ∃ t, exec (.rxb c v) s = .next t ∧ Contained c s t := by
  refine ⟨_, rfl, ?_⟩
  split
  case isTrue =>
    split
    · exact contained_updChan (recordKept_rr1 c _ (.inl rfl)) rfl
    · exact contained_interface c s _ _ _
  case isFalse hroom =>
    refine contained_updChan (.of_ok rfl fun hok => ?_) rfl
    obtain ⟨hrx, hkept⟩ := hok
    have hne : (s.chan c).rxBuffer.length ≠ s.cfg.ringCap - 1 := by
      rw [ringFull_eq_decide] at hroom
      exact of_decide_eq_false (eq_false_of_ne_true hroom)
    refine ⟨?_, hkept⟩
    rw [List.length_append, List.length_singleton]
    omega

theorem contained_execTxb (c : Channel) (s : State) : ∃ t, exec (.txb c) s = .next t ∧ Contained c s t := by
  refine ⟨_, rfl, ?_⟩
  split
  · exact contained_returnByte c _ s
  · rename_i v rest hbuffer
    refine (contained_updChan (.of_ok rfl fun hok => ?_) rfl).trans (contained_returnByte c v _)
    obtain ⟨hrx, htx, hkept⟩ := hok
    rw [hbuffer, List.length_cons] at htx
    exact ⟨hrx, (Nat.le_succ _).trans htx, hkept⟩

/-- An instruction that names a channel has its effects there, but for the two writes that can be mirrored (R186,
R324). -/
theorem exec_contained {i : Instr} {c : Channel} (hc : channelOf i = some c) (hm : mirrored i = false) (s : State) :
    ∃ t, exec i s = .next t ∧ Contained c s t := by
  cases i <;> cases hc
  case wcWR2 | wcWR9 => cases hm
  case wc0Null rsv ptr | wc0PointHigh rsv ptr | wc0SendAbort rsv ptr | wc0ResetHighestIus rsv ptr =>
    exact ⟨_, rfl, (contained_storeCommand c rsv _ ptr s).trans (contained_ifFormat c 0 _)⟩
  case wc0ResetExtStatusInt rsv ptr =>
    exact ⟨_, rfl, ((contained_storeCommand c rsv _ ptr s).trans (contained_clearCondition_ext c _)).trans
      (contained_ifFormat c 0 _)⟩
  case wc0ResetTxIntPending rsv ptr =>
    exact ⟨_, rfl, ((contained_storeCommand c rsv _ ptr s).trans (contained_clearCondition_tx c _)).trans
      (contained_ifFormat c 0 _)⟩
  case wc0EnableIntNextRx rsv ptr =>
    exact ⟨_, rfl, ((contained_storeCommand c rsv _ ptr s).trans (contained_updChan (.of_ok rfl id) rfl)).trans
      (contained_ifFormat c 0 _)⟩
  case wc0ErrorReset rsv ptr => exact contained_execWc0ErrorReset c rsv ptr s
  case wcWR5 v => exact contained_execWcWR5 c v s
  case wcWR1 v | wcWR3 v | wcWR6 v | wcWR7 v | wcWR10 v | wcWR11 v | wcWR15 v =>
    exact ⟨_, rfl, (contained_storeReg c (by decide) v s).trans (contained_ifFormat c _ _)⟩
  case wcWR4 v | wcWR12 v | wcWR13 v | wcWR14 v =>
    exact ⟨_, rfl, (contained_storeReg c (by decide) v s).trans (recomputeTiming_eq c _ ▸ contained_retimed c _)⟩
  case wcWR8 v => exact ⟨_, rfl, (contained_consumePointer c s).trans (contained_writeData c v _)⟩
  case wd v => exact ⟨_, rfl, contained_writeData c v s⟩
  case rcRR8 =>
    exact ⟨_, rfl, ((contained_consumePointer c s).trans (contained_readData c _)).trans (contained_returnByte c _ _)⟩
  case rd => exact ⟨_, rfl, (contained_readData c s).trans (contained_returnByte c _ _)⟩
  case dcd active =>
    exact ⟨_, rfl, contained_setExternalStatus c active (dcd_subset_extMask _)
      fun h => (Cfg.lines_and_underrun h).1⟩
  case cts active =>
    exact ⟨_, rfl, contained_setExternalStatus c active (cts_subset_extMask _)
      fun h => (Cfg.lines_and_underrun h).2⟩
  case rxb v => exact contained_execRxb c v s
  case txb => exact contained_execTxb c s
  case ibf | obe => exact ⟨_, rfl, contained_interface c s _ _ _⟩
  all_goals exact ⟨_, rfl, contained_readPlain c _ s⟩

/-- The two writes that can be mirrored keep what is to be kept, and reach the other channel only through the mirror. -/
theorem exec_mirrored {i : Instr} {c : Channel} (hc : channelOf i = some c) (hm : mirrored i = true) (s : State) :
    ∃ t, exec i s = .next t ∧ Kept s t ∧
      (¬ s.cfg.sharedWrMirror = true → t.chan (otherChannel c) = s.chan (otherChannel c)) := by
  cases i <;> cases hc <;> cases hm
  case wcWR2 v =>
    exact ⟨_, rfl, (kept_storeShared c (by decide) v s).trans (contained_ifFormat c 2 _).toKept,
      fun h => ((contained_ifFormat c 2 _).other).trans (storeShared_other h c 2 v)⟩
  case wcWR9 v =>
    refine ⟨_, rfl, (kept_storeShared_recomputeIrq c 9 v s).trans (contained_ifFormat c 9 _).toKept,
      fun h => ((contained_ifFormat c 9 _).other).trans ?_⟩
    rw [recomputeIrq_eq, withSticky_chan]
    exact storeShared_other h c 9 v

/-- Every instruction but `reset` completes and keeps what is to be kept (R320). -/
theorem exec_kept {i : Instr} (hi : i ≠ .rst) (s : State) : ∃ t, exec i s = .next t ∧ Kept s t := by
  cases hc : channelOf i with
  | some c =>
    cases hm : mirrored i with
    | false =>
      obtain ⟨t, hexec, hcontained⟩ := exec_contained hc hm s
      exact ⟨t, hexec, hcontained.toKept⟩
    | true =>
      obtain ⟨t, hexec, hkept, _⟩ := exec_mirrored hc hm s
      exact ⟨t, hexec, hkept⟩
  | none =>
    cases i with
    | rst => exact absurd rfl hi
    | adv n =>
      exact ⟨_, rfl, (contained_chnAdvance .A n s).toKept.trans (contained_chnAdvance .B n _).toKept⟩
    | _ => cases hc

end Sys2Proof.Machine
end

section
/-! Reset (R350 to R352): the next state as one update, the values it leaves, and that it establishes the invariants;
the statements about the state after reset itself. -/

namespace Sys2Proof.Machine

/-! ### The record of a channel that reset has cleared -/

@[simp] theorem resetChannel_wr (cfg : Cfg) (ch : ChannelState) (i : RegNum) : (resetChannel cfg ch).wr i = 0#8 :=
  replicate_get i 0#8

theorem resetChannel_rrs (cfg : Cfg) (ch : ChannelState) (i : RegNum) :
    (resetChannel cfg ch).rrs i = if i = 1 then cfg.rr1AllSent else 0#8 := by
  show ((Vector.replicate 16 0#8).set 1 cfg.rr1AllSent).get i = _
  exact (vector_get_set _ 1 i _).trans (by rw [replicate_get])

/-- The cleared record, its timing recomputed, meets the invariants whatever the record was (R351). -/
theorem resetChannel_retimed_ok (cfg : Cfg) (c : Channel) (ch : ChannelState) :
    ((resetChannel cfg ch).retimed cfg c).Ok cfg c := by
  have hdiv := one_le_newDivisor cfg (resetChannel cfg ch)
  refine ⟨Nat.zero_le _, Nat.zero_le _, hdiv, hdiv, le_refl _, Nat.zero_le _, Nat.zero_le _, BitVec.zero_and, ?_, ?_,
    fun i h0 h1 h8 => ?_⟩ <;> rw [channel_retimed_rrs, resetChannel_rrs]
  · exact BitVec.zero_and
  · exact self_and_not_or _ _
  · exact if_neg h1

/-! ### The next state -/

/-- Reset as one update of the state: the sinks are told of the parameters of A and B if they changed, then of RTS on
both channels and of the IRQ level, changed or not (R350). -/
theorem resetChip_eq (s : State) :
    resetChip s = { s with
      controlIndex := 0#4
      rr3 := 0#8
      irqLine := false
      chanA := (resetChannel s.cfg s.chanA).retimed s.cfg .A
      chanB := (resetChannel s.cfg s.chanB).retimed s.cfg .B
      lifecycle := .running
      events := s.events ++ paramsEvents s.cfg .A s.chanA ((resetChannel s.cfg s.chanA).retimed s.cfg .A)
        ++ paramsEvents s.cfg .B s.chanB ((resetChannel s.cfg s.chanB).retimed s.cfg .B)
        ++ (if s.cfg.sinks.rts.a then [.rts .A false] else [])
        ++ (if s.cfg.sinks.rts.b then [.rts .B false] else [])
        ++ (if s.cfg.sinks.irq then [.irq false] else []) } := by
  simp only [resetChip, recomputeTiming_eq, setRts_eq, emit_eq]
  rfl

theorem exec_rst (s : State) : exec .rst s = .next (resetChip s) := rfl

/-- The record of either channel after reset. -/
theorem resetChip_chan (s : State) (c : Channel) :
    (resetChip s).chan c = (resetChannel s.cfg (s.chan c)).retimed s.cfg c := by
  rw [resetChip_eq]
  cases c <;> rfl

/-- Settles O58: `resetChip_eq`, the cleared record written out. -/
theorem rstClearsTheChip : Obligations.RstClearsTheChip := by
  intro s cleared newA newB
  rw [exec_rst, resetChip_eq]
  rfl

/-- No sticky bit is set, so the level of the IRQ line is low (R57, R350). -/
theorem resetChip_inv (s : State) : (resetChip s).Inv := by
  refine ⟨?_, ?_, ?_, ?_⟩
  · rw [resetChip_eq]
    exact BitVec.zero_and
  · rw [resetChip_eq, irqLevel]
    exact (Bool.and_false _).symm
  · rw [resetChip_eq]
    exact resetChannel_retimed_ok s.cfg .A s.chanA
  · rw [resetChip_eq]
    exact resetChannel_retimed_ok s.cfg .B s.chanB

/-- Settles O11: both cleared records are well, and the IRQ line is low with no sticky bit set. -/
theorem rstEstablishesInvariantFromAnyState : Obligations.RstEstablishesInvariantFromAnyState :=
  fun s => ⟨_, exec_rst s, resetChip_inv s⟩

/-- Under the default `decode` a zero WR14 turns the generator off, and zero format registers read as 5 bits, no
parity and no stop bit (R235 to R238). -/
theorem resetChannel_timing_default {cfg : Cfg} (hdec : cfg.decode = DecodeChoice.allDefault) (c : Channel)
    (ch : ChannelState) :
    newDivisor cfg (resetChannel cfg ch) = 16384 ∧
      ((resetChannel cfg ch).retimed cfg c).params = (0, Parity.none, 5, 0) := by
  have hoff : brgEnabled cfg ((resetChannel cfg ch).wr 14) = false := by
    rw [resetChannel_wr, brgEnabled, hdec]
    rfl
  refine ⟨newDivisor_of_disabled hoff, ?_⟩
  simp only [ChannelState.params, ChannelState.retimed, newBps_of_disabled c hoff, resetChannel_wr, parityOf,
    bitsPerCharOf, stopBitsX2Of, hdec]
  rfl

/-- Settles O59: the cleared record gives every row but the timing's; those are the default `decode` of zero
registers. -/
theorem rstUnderDefaultDecode : Obligations.RstUnderDefaultDecode := by
  intro s hdec
  refine ⟨_, exec_rst s, by rw [resetChip_eq], by rw [resetChip_eq], by rw [resetChip_eq], by rw [resetChip_eq],
    fun c => ?_⟩
  obtain ⟨hdivisor, hparams⟩ := resetChannel_timing_default hdec c (s.chan c)
  simp only [ChannelState.params, Prod.mk.injEq] at hparams
  obtain ⟨hbps, hparity, hbits, hstop⟩ := hparams
  have hrrs (i : RegNum) (hi : i ≠ 1) : ((resetChip s).chan c).rrs i = 0x00#8 := by
    rw [resetChip_chan, channel_retimed_rrs, resetChannel_rrs, if_neg hi]
  have hwr (i : RegNum) : ((resetChip s).chan c).wr i = 0x00#8 := by
    rw [resetChip_chan, channel_retimed_wr, resetChannel_wr]
  refine ⟨hwr, ?_, hrrs, ?_, ?_, hrrs 8 (by decide), hwr 8, ?_⟩ <;> rw [resetChip_chan]
  · exact resetChannel_rrs s.cfg (s.chan c) 1
  · rfl
  · rfl
  · exact ⟨rfl, rfl, rfl, rfl, rfl, rfl, rfl, hdivisor, hdivisor, hbps, hparity, hbits, hstop⟩

/-! ### The state after reset -/

/-- Settles O10: every clause is about numbers. -/
theorem resetStateMeetsInvariant : Obligations.ResetStateMeetsInvariant := by
  unfold Obligations.ResetStateMeetsInvariant
  decide

/-- Settles O60: the created chip is a literal, and so is the state that reset makes of it. -/
theorem firstResetGivesResetState : Obligations.FirstResetGivesResetState := by
  unfold Obligations.FirstResetGivesResetState
  refine congrArg Host.Outcome.next ?_
  decide

/-- Settles O48: sixteen pointers on two channels, each a read of a literal state. -/
theorem readsRightAfterReset : Obligations.ReadsRightAfterReset := by
  intro c n
  have registers : ∀ n : BitVec 4, ∃ k : Fin 16, n = BitVec.ofFin k := fun n => ⟨n.toFin, rfl⟩
  obtain ⟨k, rfl⟩ := registers n
  cases c <;> fin_cases k <;> exact ⟨_, rfl, rfl⟩

/-- Settles O25: the table of R22 is the definition. -/
theorem stickyBitTable : Obligations.StickyBitTable := ⟨rfl, rfl, rfl, rfl, rfl, rfl⟩

end Sys2Proof.Machine
end

section
/-! The statements about every instruction, every step and every sequence of operations (R20, R41, R55 to R59, R110,
R254, R320, R324): `reset` by its own laws, every other instruction by what it keeps. -/

namespace Sys2Proof.Machine

/-- Every instruction completes: `reset` with its own next state, every other one keeping what is to be kept. -/
theorem exec_cases (i : Instr) (s : State) :
    (i = .rst ∧ exec i s = .next (resetChip s)) ∨ ∃ t, exec i s = .next t ∧ Kept s t := by
  by_cases hi : i = .rst
  · subst hi
    exact .inl ⟨rfl, exec_rst s⟩
  · exact .inr (exec_kept hi s)

/-- The same read off a next state that is given. -/
theorem exec_next_cases {i : Instr} {s t : State} (hexec : exec i s = .next t) :
    (i = .rst ∧ t = resetChip s) ∨ Kept s t := by
  rcases exec_cases i s with ⟨hi, h⟩ | ⟨u, h, hkept⟩ <;> obtain rfl := Host.Outcome.next.inj (hexec.symm.trans h)
  · exact .inl ⟨hi, rfl⟩
  · exact .inr hkept

theorem exec_completes (i : Instr) (s : State) : ∃ t, exec i s = .next t := by
  rcases exec_cases i s with ⟨_, h⟩ | ⟨t, h, _⟩
  · exact ⟨_, h⟩
  · exact ⟨t, h⟩

/-! ### The invariants -/

theorem exec_inv {i : Instr} {s t : State} (hexec : exec i s = .next t) (hs : s.Inv) : t.Inv := by
  rcases exec_next_cases hexec with ⟨_, rfl⟩ | hkept
  · exact resetChip_inv s
  · exact hkept.inv hs

/-- Settles O8: `reset` establishes the invariants, every other instruction keeps them. -/
theorem everyOperationCompletesKeepingInvariant : Obligations.EveryOperationCompletesKeepingInvariant := by
  intro i s hs
  obtain ⟨t, hexec⟩ := exec_completes i s
  exact ⟨t, hexec, exec_inv hexec hs⟩

/-- Settles O16: nor does `reset` change the wiring or the inbox. -/
theorem wiringNeverChanges : Obligations.WiringNeverChanges := by
  intro i s t hexec
  rcases exec_next_cases hexec with ⟨_, rfl⟩ | hkept
  · rw [resetChip_eq]
    exact ⟨rfl, rfl⟩
  · exact ⟨hkept.cfg, hkept.inbox⟩

/-- No instruction takes a running chip back to the created state (R61, R352). -/
theorem exec_running {i : Instr} {s t : State} (hexec : exec i s = .next t) (hs : s.lifecycle = .running) :
    t.lifecycle = .running := by
  rcases exec_next_cases hexec with ⟨_, rfl⟩ | hkept
  · rw [resetChip_eq]
  · rw [hkept.lifecycle, hs]

/-- A ready chip stays ready while the operations are run. -/
theorem exec_ready {i : Instr} {s t : State} (hexec : exec i s = .next t) (hs : s.Ready) : t.Ready := by
  obtain ⟨hlife, hwf, hpacket⟩ := hs
  obtain ⟨hcfg, _⟩ := wiringNeverChanges i s t hexec
  exact ⟨exec_running hexec hlife, hcfg ▸ hwf, hcfg ▸ hpacket⟩

/-! ### The step -/

/-- Taking an operation off the inbox touches nothing the invariants speak of. -/
theorem beginOp_inv {s : State} (rest : List Operation) (hs : s.Inv) : (beginOp rest s).Inv := hs

/-- A step that answers a state has run nothing, or the instruction at the head of the inbox. -/
theorem step_next_cases {s t : State} (h : step s = .next t) :
    (s.inbox = [] ∧ t = s) ∨
      ∃ op rest i, s.inbox = op :: rest ∧ decode s.controlIndex op = .ok i ∧ exec i (beginOp rest s) = .next t := by
  unfold step at h
  split at h
  · rename_i hin
    exact .inl ⟨hin, (Host.Outcome.next.inj h).symm⟩
  · rename_i op rest hin
    split at h
    · cases h
    · split at h
      · cases h
      · split at h
        · cases h
        · rename_i i hdec
          split at h
          · exact .inr ⟨op, rest, i, hin, hdec, h⟩
          · cases h

/-- Settles O9: the step runs an instruction, which keeps the invariants, or nothing. -/
theorem stepKeepsInvariant : Obligations.StepKeepsInvariant := by
  intro s t hs hstep
  rcases step_next_cases hstep with ⟨_, rfl⟩ | ⟨op, rest, i, _, _, hexec⟩
  · exact hs
  · exact exec_inv hexec (beginOp_inv rest hs)

end Sys2Proof.Machine
end

section
/-! The decoder and the encoder are inverse to each other (R111 to R121), a triple decodes exactly if it is an operation
(R119), and the fields of a register-0 byte (R112, R113). -/

namespace Sys2Proof.Machine

/-! ### The fields of the byte that an encoding writes (R112) -/

@[simp] theorem ptrField_commandByte (rsv : BitVec 2) (cmd ptr : BitVec 3) : ptrField (commandByte rsv cmd ptr) = ptr :=
  BitVec.extractLsb'_append_eq_right

@[simp] theorem cmdField_commandByte (rsv : BitVec 2) (cmd ptr : BitVec 3) :
    cmdField (commandByte rsv cmd ptr) = cmd := by
  rw [cmdField, commandByte, BitVec.extractLsb'_append_eq_of_le (le_refl 3)]
  exact BitVec.extractLsb'_append_eq_right

@[simp] theorem rsvField_commandByte (rsv : BitVec 2) (cmd ptr : BitVec 3) :
    rsvField (commandByte rsv cmd ptr) = rsv := by
  rw [rsvField, commandByte, BitVec.extractLsb'_append_eq_of_le (by decide)]
  exact BitVec.extractLsb'_append_eq_left

/-! ### Decode of encode -/

/-- Settles O1: the byte of a command has the command's number and its two free fields; every other row is selected by
the kind and the pointer alone. -/
theorem decodeInvertsEncode : Obligations.DecodeInvertsEncode := by
  intro i ci hpointer
  have hci {k : BitVec 4} (h : pointerOf i = some k) : ci = k := by
    rcases hpointer with h' | h' <;> rw [h] at h'
    · cases h'
    · exact (Option.some.inj h').symm
  cases i
  case wd | rd | adv | dcd | cts | rxb | txb | ibf | obe | rst => rfl
  case wc0Null | wc0PointHigh | wc0ResetExtStatusInt | wc0SendAbort | wc0EnableIntNextRx | wc0ResetTxIntPending |
      wc0ErrorReset | wc0ResetHighestIus =>
    rw [hci rfl, encode, decode_writeControlOp, decodeWriteControl_zero]
    simp [decodeCommand]
  all_goals
    rw [hci rfl]
    rfl

/-! ### Encode of decode -/

theorem bitVec4_eq_ofFin (x : BitVec 4) : ∃ k : Fin 16, x = BitVec.ofFin k := ⟨x.toFin, rfl⟩

theorem encode_decodeCommand (c : Channel) (v : Byte) : encode (decodeCommand c v) = writeControlOp c v := by
  have commands : ∀ k : BitVec 3, k ∈ [0#3, 1#3, 2#3, 3#3, 4#3, 5#3, 6#3, 7#3] := by decide
  have hbyte := commandByte_fields v
  have hcommand := commands (cmdField v)
  unfold decodeCommand
  generalize cmdField v = k at *
  fin_cases hcommand <;> exact congrArg (writeControlOp c) hbyte

theorem pointerOf_decodeCommand (c : Channel) (v : Byte) : pointerOf (decodeCommand c v) = some 0#4 := by
  unfold decodeCommand
  split <;> rfl

theorem encode_decodeWriteControl (ci : BitVec 4) (c : Channel) (v : Byte) :
    encode (decodeWriteControl ci c v) = writeControlOp c v := by
  unfold decodeWriteControl
  split
  case h_1 => exact encode_decodeCommand c v
  all_goals rfl

theorem pointerOf_decodeWriteControl (ci : BitVec 4) (c : Channel) (v : Byte) :
    pointerOf (decodeWriteControl ci c v) = some ci := by
  obtain ⟨k, rfl⟩ := bitVec4_eq_ofFin ci
  fin_cases k
  · exact pointerOf_decodeCommand c v
  all_goals rfl

theorem encode_decodeReadControl (ci : BitVec 4) (c : Channel) : encode (decodeReadControl ci c) = readControlOp c := by
  unfold decodeReadControl
  split <;> rfl

theorem pointerOf_decodeReadControl (ci : BitVec 4) (c : Channel) : pointerOf (decodeReadControl ci c) = some ci := by
  obtain ⟨k, rfl⟩ := bitVec4_eq_ofFin ci
  fin_cases k <;> rfl

/-! ### What a triple must have to decode (R111) -/

theorem needChannel_eq_ok {op : Operation} {k : Channel → Except DecodeError Instr} {i : Instr} :
    needChannel op k = .ok i ↔ ∃ c, op.channel = some c ∧ k c = .ok i := by
  unfold needChannel
  cases op.channel <;> simp

theorem needNoChannel_eq_ok {op : Operation} {k : Except DecodeError Instr} {i : Instr} :
    needNoChannel op k = .ok i ↔ op.channel = none ∧ k = .ok i := by
  unfold needNoChannel
  cases op.channel <;> simp

theorem needByte_eq_ok {op : Operation} {k : Byte → Instr} {i : Instr} :
    needByte op k = .ok i ↔ ∃ v, op.operand = .byte v ∧ k v = i := by
  unfold needByte
  cases op.operand <;> simp

theorem needBool_eq_ok {op : Operation} {k : Bool → Instr} {i : Instr} :
    needBool op k = .ok i ↔ ∃ b, op.operand = .bool b ∧ k b = i := by
  unfold needBool
  cases op.operand <;> simp

theorem needNat_eq_ok {op : Operation} {k : Nat → Instr} {i : Instr} :
    needNat op k = .ok i ↔ ∃ n, op.operand = .nat n ∧ k n = i := by
  unfold needNat
  cases op.operand <;> simp

theorem needAbsent_eq_ok {op : Operation} {j i : Instr} : needAbsent op j = .ok i ↔ op.operand = .absent ∧ j = i := by
  unfold needAbsent
  cases op.operand <;> simp

/-- Settles O2: for each kind the channel and the operand are those the row was built from; for the control port the
pointer is the number of the row. -/
theorem encodeInvertsDecode : Obligations.EncodeInvertsDecode := by
  rintro ci ⟨kind, channel, operand⟩ i hdec
  cases kind <;> simp only [decode, needChannel_eq_ok, needNoChannel_eq_ok, needByte_eq_ok, needBool_eq_ok,
    needNat_eq_ok, needAbsent_eq_ok] at hdec
  case writeControl =>
    obtain ⟨c, rfl, v, rfl, rfl⟩ := hdec
    exact ⟨encode_decodeWriteControl ci c v, .inr (pointerOf_decodeWriteControl ci c v)⟩
  case readControl =>
    obtain ⟨c, rfl, rfl, rfl⟩ := hdec
    exact ⟨encode_decodeReadControl ci c, .inr (pointerOf_decodeReadControl ci c)⟩
  case writeData | receiveByte | setDcd | setCts =>
    obtain ⟨c, rfl, x, rfl, rfl⟩ := hdec
    exact ⟨rfl, .inl rfl⟩
  case readData | sendByte | inputBufferFull | outputBufferEmpty =>
    obtain ⟨c, rfl, rfl, rfl⟩ := hdec
    exact ⟨rfl, .inl rfl⟩
  case advance =>
    obtain ⟨rfl, n, rfl, rfl⟩ := hdec
    exact ⟨rfl, .inl rfl⟩
  case reset =>
    obtain ⟨rfl, rfl, rfl⟩ := hdec
    exact ⟨rfl, .inl rfl⟩

/-! ### Which triples decode -/

theorem encode_wellFormed (i : Instr) : (encode i).wellFormed = true := by cases i <;> rfl

/-- Every operation of R111 decodes, whatever the pointer (R119). -/
theorem exists_decode_of_wellFormed (ci : BitVec 4) {op : Operation} (h : op.wellFormed = true) :
    ∃ i, decode ci op = .ok i := by
  obtain ⟨kind, channel, operand⟩ := op
  simp only [Operation.wellFormed, Bool.and_eq_true, beq_iff_eq] at h
  obtain ⟨hchannel, hoperand⟩ := h
  cases kind
  case advance =>
    obtain rfl := Option.isSome_eq_false_iff.mp hchannel |> Option.isNone_iff_eq_none.mp
    cases operand with
    | nat n => exact ⟨_, rfl⟩
    | _ => cases hoperand
  case reset =>
    obtain rfl := Option.isSome_eq_false_iff.mp hchannel |> Option.isNone_iff_eq_none.mp
    cases operand with
    | absent => exact ⟨_, rfl⟩
    | _ => cases hoperand
  all_goals obtain ⟨c, rfl⟩ := Option.isSome_iff_exists.mp hchannel
  case writeControl | writeData | receiveByte =>
    cases operand with
    | byte v => exact ⟨_, rfl⟩
    | _ => cases hoperand
  case setDcd | setCts =>
    cases operand with
    | bool b => exact ⟨_, rfl⟩
    | _ => cases hoperand
  all_goals
    cases operand with
    | absent => exact ⟨_, rfl⟩
    | _ => cases hoperand

/-- Settles O3: what decodes is the operation of an instruction, and each of those is well-formed. -/
theorem decodableExactlyOperations : Obligations.DecodableExactlyOperations := by
  intro ci op
  refine ⟨?_, exists_decode_of_wellFormed ci⟩
  rintro ⟨i, hdec⟩
  obtain ⟨hencode, _⟩ := encodeInvertsDecode ci op i hdec
  exact hencode ▸ encode_wellFormed i

/-! ### The mask and the match of the CW0 rows (R113, R121) -/

theorem commandByte_and (rsv rsv' : BitVec 2) (cmd cmd' ptr ptr' : BitVec 3) :
    commandByte rsv cmd ptr &&& commandByte rsv' cmd' ptr' = commandByte (rsv &&& rsv') (cmd &&& cmd') (ptr &&& ptr') :=
  BitVec.and_append.trans (congrArg (· ++ (ptr &&& ptr')) BitVec.and_append)

/-- The mask leaves the command field where it stands. -/
theorem and_cw0Mask (v : Byte) : v &&& cw0Mask = commandByte 0#2 (cmdField v) 0#3 := by
  have hmask : cw0Mask = commandByte 0#2 (BitVec.allOnes 3) 0#3 := by decide
  have hv := commandByte_fields v
  calc v &&& cw0Mask = commandByte (rsvField v) (cmdField v) (ptrField v) &&& cw0Mask := by rw [hv]
    _ = commandByte 0#2 (cmdField v) 0#3 := by
      rw [hmask, commandByte_and, BitVec.and_zero, BitVec.and_allOnes, BitVec.and_zero]

theorem cw0Matches_get : ∀ k : Fin 8, cw0Matches.get k = commandByte 0#2 (BitVec.ofNat 3 k.val) 0#3 := by
  intro k
  fin_cases k <;> rfl

/-- Settles O4: six literals; and a byte under the mask and the match of a row differ at most in the command field. -/
theorem writtenOutOperationsDecode : Obligations.WrittenOutOperationsDecode := by
  refine ⟨rfl, rfl, rfl, rfl, rfl, rfl, fun v k => ?_⟩
  rw [and_cw0Mask, cw0Matches_get]
  refine ⟨fun h => ?_, fun h => congrArg (commandByte 0#2 · 0#3) h⟩
  rw [← cmdField, ← cmdField_commandByte 0#2 (cmdField v) 0#3, h, cmdField_commandByte]

end Sys2Proof.Machine
end

section
/-! The step (R4, R89, R110, R352): what it does on a created chip and when it runs nothing, and a sequence of
operations run to its end. -/

namespace Sys2Proof.Machine

/-! ### One step -/

/-- Settles O5: the laws of the step say so of `beginOp`, whose body is written out in the statement. -/
theorem stepRunsDecodedInstruction : Obligations.StepRunsDecodedInstruction :=
  fun _ _ _ _ hs hin hdec => step_of_ready hs hin hdec

/-- An admissible configuration: the decoder's answer decides, and whether the chip takes the instruction. -/
theorem step_of_decode_ok {s : State} {op : Operation} {rest : List Operation} {i : Instr}
    (hpacket : s.cfg.packetMode = false) (hwf : s.cfg.wellFormed = true) (hin : s.inbox = op :: rest)
    (hdec : decode s.controlIndex op = .ok i) :
    step s = if accepts s i then exec i (beginOp rest s) else .refused .beforeFirstReset := by
  simp [step, hin, hpacket, hwf, hdec]

theorem step_of_decode_error {s : State} {op : Operation} {rest : List Operation} {why : DecodeError}
    (hpacket : s.cfg.packetMode = false) (hwf : s.cfg.wellFormed = true) (hin : s.inbox = op :: rest)
    (hdec : decode s.controlIndex op = .error why) : step s = .refused (.malformedOperation why) := by
  simp [step, hin, hpacket, hwf, hdec]

/-- Settles O6: a created chip takes an instruction exactly if it is `reset`. -/
theorem createdChipTakesOnlyReset : Obligations.CreatedChipTakesOnlyReset := by
  intro s op rest i hlife hwf hpacket hin hdec
  rw [step_of_decode_ok hpacket hwf hin hdec]
  by_cases hi : i = .rst
  · subst hi
    simp [accepts, beginOp]
  · simp [accepts, hlife, hi]

/-- Settles O7: the four ways, in the order in which the step tries them. -/
theorem stepWithNothingToRun : Obligations.StepWithNothingToRun := by
  intro s
  refine ⟨fun hin => by simp [step, hin], fun op rest hin => ⟨fun hpacket => ?_, fun hpacket hwf => ?_,
    fun hpacket hwf hop => ?_⟩⟩
  · simp [step, hin, hpacket]
  · simp [step, hin, hpacket, hwf]
  · cases hdec : decode s.controlIndex op with
    | error why => exact ⟨why, step_of_decode_error hpacket hwf hin hdec⟩
    | ok i =>
      have hop' := (decodableExactlyOperations s.controlIndex op).mp ⟨i, hdec⟩
      rw [hop] at hop'
      cases hop'

/-! ### A sequence of operations -/

/-- A run of any machine goes on from the state its first step answers. -/
theorem run_succ_of_step (M : Host.Core) {s t : M.State} (h : M.step s = .next t) (k : Nat) :
    M.run (k + 1) s = M.run k t := by
  rw [Host.Core.run, h]

/-- What a run of operations keeps from step to step: the invariants, the readiness of the chip, and that the inbox
holds operations only. -/
structure Runs (s : State) : Prop where
  inv : s.Inv
  ready : s.Ready
  operations : ∀ op ∈ s.inbox, op.wellFormed = true

/-- With an operation waiting, the step runs it, and the rest can be run on. -/
theorem Runs.step {s : State} (hs : Runs s) {op : Operation} {rest : List Operation} (hin : s.inbox = op :: rest) :
    ∃ t, step s = .next t ∧ t.inbox = rest ∧ Runs t := by
  obtain ⟨i, hdec⟩ := exists_decode_of_wellFormed s.controlIndex (hs.operations op (by simp [hin]))
  obtain ⟨t, hexec⟩ := exec_completes i (beginOp rest s)
  obtain ⟨_, hinbox⟩ := wiringNeverChanges i _ t hexec
  refine ⟨t, (step_of_ready hs.ready hin hdec).trans hexec, hinbox, exec_inv hexec (beginOp_inv rest hs.inv),
    exec_ready hexec hs.ready, ?_⟩
  rw [hinbox]
  exact fun op' hmem => hs.operations op' (hin ▸ List.mem_cons_of_mem op hmem)

/-- Settles O12, by induction on the operations that wait. -/
theorem anyOperationSequenceRunsToItsEnd : Obligations.AnyOperationSequenceRunsToItsEnd := by
  have run : ∀ (ops : List Operation) (s : State), s.inbox = ops → Runs s →
      ∃ t : State, Host.Core.run Sys2Proof.core ops.length s = .next t ∧ t.inbox = [] ∧ t.Inv ∧ t.Ready := by
    intro ops
    induction ops with
    | nil => exact fun s hin hs => ⟨s, rfl, hin, hs.inv, hs.ready⟩
    | cons op rest ih =>
      intro s hin hs
      obtain ⟨t, hstep, hinbox, ht⟩ := hs.step hin
      obtain ⟨u, hrun, hend⟩ := ih t hinbox ht
      exact ⟨u, (run_succ_of_step Sys2Proof.core hstep rest.length).trans hrun, hend⟩
  exact fun s hinv hready hops => run s.inbox s rfl ⟨hinv, hready, hops⟩

end Sys2Proof.Machine
end

section
/-! What each instruction reaches (R21, R41, R52, R92, R118, R254, R259, R324): the other channel, the bits of the
status registers that only `reset` clears, the register pointer, the armed flag and the ring buffers. -/

namespace Sys2Proof.Machine

/-! ### The other channel, and the bits that stay -/

/-- Settles O17: the instructions that cannot be mirrored are contained in their channel, the other two are without the
mirror. -/
theorem otherChannelUntouched : Obligations.OtherChannelUntouched := by
  intro i c s t hc hshared hexec
  cases hm : mirrored i with
  | false =>
    obtain ⟨u, hu, hcontained⟩ := exec_contained hc hm s
    obtain rfl := Host.Outcome.next.inj (hexec.symm.trans hu)
    exact hcontained.other
  | true =>
    obtain ⟨u, hu, _, hother⟩ := exec_mirrored hc hm s
    obtain rfl := Host.Outcome.next.inj (hexec.symm.trans hu)
    exact hother fun h => hshared ⟨h, hm⟩

/-- Settles O19: every instruction but `reset` keeps a set underrun bit. -/
theorem underrunBitStaysUntilReset : Obligations.UnderrunBitStaysUntilReset := by
  intro i c s t hwf hi hset hexec
  rcases exec_next_cases hexec with ⟨hrst, _⟩ | hkept
  · exact absurd hrst hi
  · exact (hkept.record c).underrun hwf hset

/-- Settles O20: `reset` sets All-Sent, every other instruction keeps it. -/
theorem allSentNeverCleared : Obligations.AllSentNeverCleared := by
  intro i c s t hwf hset hexec
  rcases exec_next_cases hexec with ⟨_, rfl⟩ | hkept
  · rw [resetChip_chan, channel_retimed_rrs, resetChannel_rrs, if_pos rfl, BitVec.and_self]
  · exact (hkept.record c).allSent hwf hset

/-! ### The register pointer -/

@[simp] theorem chnAdvance_controlIndex (c : Channel) (n : Nat) (s : State) :
    (chnAdvance c n s).controlIndex = s.controlIndex := by
  rcases chnAdvance_cases c n s with ⟨_, h⟩ | ⟨_, h⟩ <;> rw [h]
  · exact updChan_controlIndex s c _
  · rw [(onlyRaises_checkTransmit c _).controlIndex, (onlyRaises_checkReceive c _).controlIndex, updChan_controlIndex]

@[simp] theorem setExternalStatus_controlIndex (c : Channel) (bit : Byte) (active : Bool) (s : State) :
    (setExternalStatus c bit active s).controlIndex = s.controlIndex := by
  rcases setExternalStatus_cases c bit active s with ⟨_, h⟩ | ⟨_, h⟩ <;> rw [h]
  · exact updChan_controlIndex s c _
  · rw [(onlyRaises_raise_ext c _).controlIndex, updChan_controlIndex]

/-- Settles O15: the nine rows that ask for no pointer, and `reset`, which the statement leaves out. -/
theorem onlyControlPortMovesPointer : Obligations.OnlyControlPortMovesPointer := by
  intro i s t hpointer hi hexec
  cases i <;> cases hpointer <;> obtain rfl := Host.Outcome.next.inj hexec
  case wd c v => exact writeData_controlIndex c v s
  case rd c => exact readData_controlIndex c s
  case adv n => rw [chnAdvance_controlIndex, chnAdvance_controlIndex]
  case dcd c active => exact setExternalStatus_controlIndex c _ active s
  case cts c active => exact setExternalStatus_controlIndex c _ active s
  case rxb c v => split <;> [split; skip] <;> simp
  case txb c => split <;> simp
  case ibf | obe => rfl
  case rst => exact absurd rfl hi

/-! ### The ring buffers and the armed flag -/

/-- What an operation can do to a ring buffer (R92, R259): take at most one byte from the head, add at most one at the
tail. -/
def RingStep (before after : List Byte) : Prop :=
  ∃ taken added, taken ≤ 1 ∧ added.length ≤ 1 ∧ after = before.drop taken ++ added

theorem RingStep.refl (q : List Byte) : RingStep q q := ⟨0, [], by decide, by decide, by simp⟩

theorem RingStep.of_drop {q : List Byte} {k : Nat} (hk : k ≤ 1) : RingStep q (q.drop k) :=
  ⟨k, [], hk, by decide, (List.append_nil _).symm⟩

theorem RingStep.of_append (q : List Byte) {l : List Byte} (hl : l.length ≤ 1) : RingStep q (q ++ l) :=
  ⟨0, l, by decide, hl, rfl⟩

/-- How an operation moves a channel's traffic: a step of each ring buffer, and the flag armed only if `arms`. -/
structure Flow (arms : Prop) (ch ch' : ChannelState) : Prop where
  rx : RingStep ch.rxBuffer ch'.rxBuffer
  tx : RingStep ch.txBuffer ch'.txBuffer
  armed : ch'.armed = true → ch.armed = true ∨ arms

/-- The part of a channel's record that the traffic is in: the buffers and the armed flag. -/
def ChannelState.traffic (ch : ChannelState) : List Byte × List Byte × Bool := (ch.rxBuffer, ch.txBuffer, ch.armed)

/-- A change that leaves the traffic alone may come first. -/
theorem Flow.of_traffic_left {arms : Prop} {ch ch' ch'' : ChannelState} (heq : ch'.traffic = ch.traffic)
    (h : Flow arms ch' ch'') : Flow arms ch ch'' := by
  simp only [ChannelState.traffic, Prod.mk.injEq] at heq
  obtain ⟨hrx, htx, harmed⟩ := heq
  exact ⟨hrx ▸ h.rx, htx ▸ h.tx, harmed ▸ h.armed⟩

theorem Flow.refl (arms : Prop) (ch : ChannelState) : Flow arms ch ch := ⟨.refl _, .refl _, .inl⟩

theorem Flow.of_traffic (arms : Prop) {ch ch' : ChannelState} (h : ch'.traffic = ch.traffic) : Flow arms ch ch' :=
  (Flow.refl arms ch').of_traffic_left h

theorem OnlyRaises.flow {c : Channel} {s t : State} (h : OnlyRaises c s t) (arms : Prop) :
    Flow arms (s.chan c) (t.chan c) := by
  obtain ⟨k, hk, hrx⟩ := h.rxBuffer
  obtain ⟨l, hl, htx⟩ := h.txBuffer
  exact ⟨hrx ▸ .of_drop hk, htx ▸ .of_append _ hl, fun harmed => .inl (h.armed harmed)⟩

/-! ### The shared operations that leave the traffic alone -/

@[simp] theorem traffic_setWr (ch : ChannelState) (i : RegNum) (v : Byte) : (ch.setWr i v).traffic = ch.traffic := rfl

@[simp] theorem traffic_setRrs (ch : ChannelState) (i : RegNum) (v : Byte) : (ch.setRrs i v).traffic = ch.traffic := rfl

@[simp] theorem traffic_retimed (cfg : Cfg) (c : Channel) (ch : ChannelState) :
    (ch.retimed cfg c).traffic = ch.traffic := rfl

@[simp] theorem retimedFor_traffic (c : Channel) (i : RegNum) (s : State) (d : Channel) :
    ((s.retimedFor c i).chan d).traffic = (s.chan d).traffic := by
  unfold State.retimedFor
  split <;> cases c <;> cases d <;> rfl

@[simp] theorem ifFormat_traffic (c : Channel) (i : RegNum) (s : State) (d : Channel) :
    ((ifFormat c i s).chan d).traffic = (s.chan d).traffic := by
  rw [ifFormat_eq, retimedFor_traffic]

@[simp] theorem consumePointer_chan (s : State) (c : Channel) : (consumePointer s).chan c = s.chan c := by
  cases c <;> rfl

@[simp] theorem returnByte_chan (v : Byte) (s : State) (c : Channel) : (returnByte v s).chan c = s.chan c := by
  cases c <;> rfl

@[simp] theorem readPlain_chan (v : Byte) (s : State) (c : Channel) : (readPlain v s).chan c = s.chan c := by
  cases c <;> rfl

@[simp] theorem storeReg_chan (c : Channel) (i : RegNum) (v : Byte) (s : State) :
    (storeReg c i v s).chan c = (s.chan c).setWr i v := by
  rw [storeReg, chan_updChan, consumePointer_chan]

theorem storeShared_traffic (c : Channel) (i : RegNum) (v : Byte) (s : State) (d : Channel) :
    ((storeShared c i v s).chan d).traffic = (s.chan d).traffic := by
  unfold storeShared
  split <;> cases c <;> cases d <;> rfl

@[simp] theorem clearCondition_tx_traffic (c : Channel) (s : State) :
    ((clearCondition c { tx := true } s).chan c).traffic = (s.chan c).traffic := by
  rw [clearCondition_tx, withSticky_chan]

@[simp] theorem clearCondition_ext_traffic (c : Channel) (s : State) :
    ((clearCondition c { ext := true } s).chan c).traffic = (s.chan c).traffic := by
  rw [clearCondition_ext, withSticky_chan, chan_updChan]
  rfl

/-! ### The operations that move bytes -/

theorem setExternalStatus_flow (arms : Prop) (c : Channel) (bit : Byte) (active : Bool) (s : State) :
    Flow arms (s.chan c) ((setExternalStatus c bit active s).chan c) := by
  rcases setExternalStatus_cases c bit active s with ⟨_, h⟩ | ⟨_, h⟩ <;> rw [h]
  · exact .of_traffic arms (by simp)
  · exact ((onlyRaises_raise_ext c _).flow arms).of_traffic_left (by simp)

theorem writeData_flow (arms : Prop) (c : Channel) (v : Byte) (s : State) :
    Flow arms (s.chan c) ((writeData c v s).chan c) := by
  rw [writeData_eq]
  have hcheck := (onlyRaises_checkTransmit c (State.withSticky
    (s.updChan c fun ch => { ch.setWr 8 v with txdEmpty := false }) (s.rr3 &&& ~~~sticky c .tx))).flow arms
  rw [withSticky_chan, chan_updChan] at hcheck
  rw [retimedFor_chan]
  split <;> exact ⟨hcheck.rx, hcheck.tx, hcheck.armed⟩

theorem readData_flow (arms : Prop) (c : Channel) (s : State) : Flow arms (s.chan c) ((readData c s).chan c) := by
  rw [readData_eq]
  refine ((onlyRaises_checkReceive c _).flow arms).of_traffic_left ?_
  rw [withSticky_chan, chan_updChan]
  rfl

/-- The two checks of a tick make one operation of the kind: the first leaves the transmit buffer alone, the second the
receive buffer (R231). -/
theorem onlyRaises_checks (c : Channel) (s : State) : OnlyRaises c s (checkTransmit c (checkReceive c s)) :=
  (onlyRaises_checkReceive c s).trans (onlyRaises_checkTransmit c _)
    (.inr (checkTransmit_rxBuffer c _)) (.inl (checkReceive_txBuffer c s))

theorem chnAdvance_flow (arms : Prop) (c : Channel) (n : Nat) (s : State) :
    Flow arms (s.chan c) ((chnAdvance c n s).chan c) := by
  rcases chnAdvance_cases c n s with ⟨_, h⟩ | ⟨_, h⟩ <;> rw [h]
  · exact .of_traffic arms (by rw [chan_updChan]; rfl)
  · refine ((onlyRaises_checks c _).flow arms).of_traffic_left ?_
    rw [chan_updChan]
    rfl

theorem execRxb_flow (arms : Prop) (c : Channel) (v : Byte) (s : State) :
    ∃ t, exec (.rxb c v) s = .next t ∧ Flow arms (s.chan c) (t.chan c) := by
  refine ⟨_, rfl, ?_⟩
  split
  · split
    · exact .of_traffic arms (by simp)
    · exact .refl arms _
  · rw [chan_updChan]
    exact ⟨.of_append _ (le_refl 1), .refl _, .inl⟩

theorem execTxb_flow (arms : Prop) (c : Channel) (s : State) :
    ∃ t, exec (.txb c) s = .next t ∧ Flow arms (s.chan c) (t.chan c) := by
  refine ⟨_, rfl, ?_⟩
  split
  · rw [returnByte_chan]
    exact .refl arms _
  · rename_i v rest hbuffer
    rw [returnByte_chan, chan_updChan]
    exact ⟨.refl _, hbuffer ▸ .of_drop (q := v :: rest) (le_refl 1), .inl⟩

/-! ### The instructions -/

/-- The instruction is command 4 on channel `d` (R148). -/
def Arms (i : Instr) (d : Channel) : Prop := ∃ rsv ptr, i = .wc0EnableIntNextRx d rsv ptr

/-- A mirrored write changes write registers, and no traffic, on either channel. -/
theorem exec_mirrored_traffic {i : Instr} (hm : mirrored i = true) (s : State) (d : Channel) :
    ∃ t, exec i s = .next t ∧ (t.chan d).traffic = (s.chan d).traffic := by
  cases i <;> cases hm
  case wcWR2 c v => exact ⟨_, rfl, by rw [ifFormat_traffic, storeShared_traffic]⟩
  case wcWR9 c v =>
    exact ⟨_, rfl, by rw [ifFormat_traffic, recomputeIrq_eq, withSticky_chan, storeShared_traffic]⟩

/-- The flow that an instruction makes on the channel it names. -/
theorem exec_flow_named {i : Instr} {c : Channel} (hc : channelOf i = some c) (s : State) :
    ∃ t, exec i s = .next t ∧ Flow (Arms i c) (s.chan c) (t.chan c) := by
  have quiet {t : State} (hexec : exec i s = .next t) (h : (t.chan c).traffic = (s.chan c).traffic) :
      ∃ t, exec i s = .next t ∧ Flow (Arms i c) (s.chan c) (t.chan c) := ⟨t, hexec, .of_traffic _ h⟩
  cases i <;> cases hc
  case wd v => exact ⟨_, rfl, writeData_flow _ c v s⟩
  case wcWR8 v => exact ⟨_, rfl, (writeData_flow _ c v _).of_traffic_left (by simp)⟩
  case rd => exact ⟨_, rfl, by rw [returnByte_chan]; exact readData_flow _ c s⟩
  case rcRR8 => exact ⟨_, rfl, by rw [returnByte_chan]; exact (readData_flow _ c _).of_traffic_left (by simp)⟩
  case rxb v => exact execRxb_flow _ c v s
  case txb => exact execTxb_flow _ c s
  case dcd active => exact ⟨_, rfl, setExternalStatus_flow _ c _ active s⟩
  case cts active => exact ⟨_, rfl, setExternalStatus_flow _ c _ active s⟩
  case wc0EnableIntNextRx rsv ptr =>
    refine ⟨_, rfl, ?_⟩
    have hstored : Flow (Arms (.wc0EnableIntNextRx c rsv ptr) c) (s.chan c)
        (((storeCommand c rsv 4#3 ptr s).updChan c fun ch => { ch with armed := true }).chan c) := by
      rw [chan_updChan, storeCommand_chan]
      exact ⟨.refl _, .refl _, fun _ => .inr ⟨rsv, ptr, rfl⟩⟩
    rw [ifFormat_eq, retimedFor_chan]
    split <;> exact ⟨hstored.rx, hstored.tx, hstored.armed⟩
  case wc0ErrorReset rsv ptr =>
    exact quiet rfl (by rw [ifFormat_traffic]; dsimp only; split <;> simp)
  case wcWR5 v =>
    exact quiet rfl (by rw [ifFormat_traffic]; split <;> simp [setRts])
  case wcWR2 v =>
    obtain ⟨t, hexec, htraffic⟩ := exec_mirrored_traffic (i := .wcWR2 c v) rfl s c
    exact quiet hexec htraffic
  case wcWR9 v =>
    obtain ⟨t, hexec, htraffic⟩ := exec_mirrored_traffic (i := .wcWR9 c v) rfl s c
    exact quiet hexec htraffic
  case wcWR4 | wcWR12 | wcWR13 | wcWR14 => exact quiet rfl (by simp [recomputeTiming_eq])
  case ibf | obe => exact quiet rfl (by cases c <;> rfl)
  all_goals exact quiet rfl (by simp)

/-- The flow on the channel that an instruction does not name: none. -/
theorem exec_flow_other {i : Instr} {c : Channel} (hc : channelOf i = some c) (arms : Prop) (s : State) :
    ∃ t, exec i s = .next t ∧ Flow arms (s.chan (otherChannel c)) (t.chan (otherChannel c)) := by
  cases hm : mirrored i with
  | false =>
    obtain ⟨t, hexec, hcontained⟩ := exec_contained hc hm s
    exact ⟨t, hexec, hcontained.other ▸ .refl arms _⟩
  | true =>
    obtain ⟨t, hexec, htraffic⟩ := exec_mirrored_traffic hm s (otherChannel c)
    exact ⟨t, hexec, .of_traffic arms htraffic⟩

/-- `advance` steps one channel after the other, each step on its own channel (R230). -/
theorem execAdv_flow (arms : Prop) (n : Nat) (s : State) (d : Channel) :
    Flow arms (s.chan d) ((chnAdvance .B n (chnAdvance .A n s)).chan d) := by
  have hA := (contained_chnAdvance .A n s).other
  have hB := (contained_chnAdvance .B n (chnAdvance .A n s)).other
  cases d with
  | A => exact hB ▸ chnAdvance_flow arms .A n s
  | B => exact hA ▸ chnAdvance_flow arms .B n _

theorem exec_flow {i : Instr} (hi : i ≠ .rst) (d : Channel) {s t : State} (hexec : exec i s = .next t) :
    Flow (Arms i d) (s.chan d) (t.chan d) := by
  have answers (h : ∃ u, exec i s = .next u ∧ Flow (Arms i d) (s.chan d) (u.chan d)) :
      Flow (Arms i d) (s.chan d) (t.chan d) := by
    obtain ⟨u, hu, hflow⟩ := h
    obtain rfl := Host.Outcome.next.inj (hexec.symm.trans hu)
    exact hflow
  cases hc : channelOf i with
  | some c =>
    rcases eq_or_eq_otherChannel c d with rfl | rfl
    · exact answers (exec_flow_named hc s)
    · exact answers (exec_flow_other hc _ s)
  | none =>
    cases i with
    | rst => exact absurd rfl hi
    | adv n => exact answers ⟨_, rfl, execAdv_flow _ n s d⟩
    | _ => cases hc

/-- Settles O21: `reset` disarms, and no flow but that of command 4 arms. -/
theorem onlyCommandFourArms : Obligations.OnlyCommandFourArms := by
  intro i c s t hexec harmed
  by_cases hi : i = .rst
  · subst hi
    obtain rfl := Host.Outcome.next.inj (hexec.symm.trans (exec_rst s))
    rw [resetChip_chan] at harmed
    cases harmed
  · exact (exec_flow hi c hexec).armed harmed

/-- Settles O22: the two buffers of the flow. -/
theorem buffersKeepByteOrder : Obligations.BuffersKeepByteOrder :=
  fun _ c _ _ hi hexec => ⟨(exec_flow hi c hexec).rx, (exec_flow hi c hexec).tx⟩

end Sys2Proof.Machine
end

section
/-! The exact next states of the control-port writes (R140, R144 to R151, R170 to R186): the store of each kind as one
update, the level of the IRQ line and the timing after it; then the pair of writes that reaches a register (R123). -/

namespace Sys2Proof.Machine

/-! ### The commands -/

/-- The pointer is the low field, under the bit that point high sets (R114). -/
theorem pointerAfter_eq_append : ∀ cmd ptr : BitVec 3,
    pointerAfter cmd ptr = (if cmd = 1#3 then 1#1 else 0#1) ++ ptr := by decide

/-- The store of a command byte as one update (R140). -/
theorem storeCommand_eq (c : Channel) (rsv : BitVec 2) (cmd ptr : BitVec 3) (s : State) :
    storeCommand c rsv cmd ptr s = { s.updChan c (fun ch => ch.setWr 0 (rsv ++ cmd ++ ptr)) with
      controlIndex := (if cmd = 1#3 then 1#1 else 0#1) ++ ptr } := by
  rw [← pointerAfter_eq_append]
  rfl

/-- Settles O26: the four commands are the store alone. -/
theorem commandsWithoutEffectOfTheirOwn : Obligations.CommandsWithoutEffectOfTheirOwn := by
  intro c rsv ptr s after
  have store (cmd : BitVec 3) : ifFormat c 0 (storeCommand c rsv cmd ptr s) =
      after cmd (if cmd = 1#3 then 1#1 else 0#1) := by
    rw [ifFormat_eq, storeCommand_eq]
  exact ⟨congrArg _ (store 0#3), congrArg _ (store 1#3), congrArg _ (store 3#3), congrArg _ (store 7#3)⟩

/-- Settles O27: the store, then the clearing of the condition as one update each. -/
theorem clearingCommands : Obligations.ClearingCommands := by
  intro c rsv ptr s
  have clear {u t : State} (h : u = t) : Host.Outcome.next (ifFormat c 0 u) =
      (.next (t.retimedFor c 0) : Host.Outcome State Fault Refusal) := by rw [ifFormat_eq, h]
  constructor
  · refine clear ?_
    rw [clearCondition_ext, storeCommand_eq]
    cases c <;> rfl
  · refine clear ?_
    rw [clearCondition_tx, storeCommand_eq]
    cases c <;> rfl

/-- Settles O28: the store, then one change of the channel's record. -/
theorem armAndErrorReset : Obligations.ArmAndErrorReset := by
  intro c rsv ptr s
  have store {u t : State} (h : u = t) : Host.Outcome.next (ifFormat c 0 u) =
      (.next (t.retimedFor c 0) : Host.Outcome State Fault Refusal) := by rw [ifFormat_eq, h]
  constructor
  · refine store ?_
    rw [storeCommand_eq]
    cases c <;> rfl
  · refine store ?_
    rw [storeCommand_eq]
    dsimp only
    split <;> cases c <;> rfl

/-! ### The register writes -/

/-- A write of a register that `FORMAT_REGS` holds recomputes the timing last (R241, P18). -/
theorem ifFormat_of_format {c : Channel} {i : RegNum} {s : State} (hi : s.cfg.formatRegs.contains i = true) :
    ifFormat c i s = s.retimed c := by
  rw [ifFormat, if_pos hi, recomputeTiming_eq]

/-- What a plain write of such a register comes to (R170). -/
theorem ifFormat_storeReg_of_format (c : Channel) {i : RegNum} (v : Byte) {s : State}
    (hi : s.cfg.formatRegs.contains i = true) :
    ifFormat c i (storeReg c i v s) =
      State.retimed { s.updChan c (fun ch => ch.setWr i v) with controlIndex := 0#4 } c := by
  have hstored : (storeReg c i v s).cfg.formatRegs.contains i = true := by rwa [storeReg_cfg]
  rw [ifFormat_of_format hstored, storeReg_eq]

@[simp] theorem recomputeIrq_cfg (s : State) : (recomputeIrq s).cfg = s.cfg := by
  rw [recomputeIrq_eq, withSticky_cfg]

theorem storeShared_of_single {s : State} (h : s.cfg.sharedWrMirror = false) (c : Channel) (i : RegNum) (v : Byte) :
    storeShared c i v s = { s.updChan c (fun ch => ch.setWr i v) with controlIndex := 0#4 } := by
  rw [storeShared_eq, if_neg (by rw [h]; decide)]

theorem storeShared_of_mirror {s : State} (h : s.cfg.sharedWrMirror = true) (c : Channel) (i : RegNum) (v : Byte) :
    storeShared c i v s = { s with chanA := s.chanA.setWr i v, chanB := s.chanB.setWr i v, controlIndex := 0#4 } := by
  rw [storeShared_eq, if_pos h]

/-- The store of WR9 with the IRQ line brought up to date: the sticky register is the one before (R178). -/
theorem recomputeIrq_storeShared (c : Channel) (i : RegNum) (v : Byte) (s : State) :
    recomputeIrq (storeShared c i v s) = (storeShared c i v s).withSticky s.rr3 := by
  rw [recomputeIrq_eq, storeShared_rr3]

/-- Settles O30: the store, in one bank or in two, and no timing. -/
theorem enableAndMaskWritesOnlyStore : Obligations.EnableAndMaskWritesOnlyStore := by
  intro c v s
  have stores (i : RegNum) (hi : s.cfg.formatRegs.contains i = false) :
      Host.Outcome.next (ifFormat c i (storeReg c i v s)) =
        (.next { s.updChan c (fun ch => ch.setWr i v) with controlIndex := 0#4 } : Host.Outcome State Fault Refusal) :=
    congrArg _ (ifFormat_storeReg_of_not_format c v hi)
  have shared (hi : s.cfg.formatRegs.contains 2 = false) : exec (.wcWR2 c v) s = .next (storeShared c 2 v s) :=
    congrArg _ (ifFormat_of_not_format (by rwa [storeShared_cfg]))
  exact ⟨stores 1, fun hi hm => by rw [shared hi, storeShared_of_single hm],
    fun hi hm => by rw [shared hi, storeShared_of_mirror hm], stores 3, stores 15⟩

/-- Settles O31: the store, for WR9 the IRQ line, and the timing last. -/
theorem addedFormatRegistersRetime : Obligations.AddedFormatRegistersRetime := by
  intro c v s stored both
  have stores (i : RegNum) (hi : s.cfg.formatRegs.contains i = true) :
      Host.Outcome.next (ifFormat c i (storeReg c i v s)) =
        (.next ((stored i).retimed c) : Host.Outcome State Fault Refusal) :=
    congrArg _ (ifFormat_storeReg_of_format c v hi)
  have shared (hi : s.cfg.formatRegs.contains 2 = true) :
      exec (.wcWR2 c v) s = .next ((storeShared c 2 v s).retimed c) :=
    congrArg _ (ifFormat_of_format (by rwa [storeShared_cfg]))
  have enable (hi : s.cfg.formatRegs.contains 9 = true) :
      exec (.wcWR9 c v) s = .next (((storeShared c 9 v s).withSticky s.rr3).retimed c) := by
    rw [← recomputeIrq_storeShared]
    exact congrArg _ (ifFormat_of_format (by rwa [recomputeIrq_cfg, storeShared_cfg]))
  exact ⟨stores 1, fun hi hm => by rw [shared hi, storeShared_of_single hm],
    fun hi hm => by rw [shared hi, storeShared_of_mirror hm],
    fun hi hm => by rw [enable hi, storeShared_of_single hm], fun hi hm => by rw [enable hi, storeShared_of_mirror hm],
    stores 3, stores 6, stores 7, stores 10, stores 11, stores 15⟩

/-- Settles O32: the store, then the timing. -/
theorem formatRegisterWritesRetime : Obligations.FormatRegisterWritesRetime := by
  intro c v s stored
  have retimes (i : RegNum) : Host.Outcome.next (recomputeTiming c (storeReg c i v s)) =
      (.next ((stored i).retimed c) : Host.Outcome State Fault Refusal) := by
    rw [recomputeTiming_eq, storeReg_eq]
  exact ⟨retimes 4, retimes 12, retimes 13, retimes 14⟩

/-- Settles O34: the store of WR9 and the IRQ line, without the timing. -/
theorem masterEnableWriteMovesIrqAtOnce : Obligations.MasterEnableWriteMovesIrqAtOnce := by
  intro c v s hi
  have enable : exec (.wcWR9 c v) s = .next ((storeShared c 9 v s).withSticky s.rr3) := by
    rw [← recomputeIrq_storeShared]
    exact congrArg _ (ifFormat_of_not_format (by rwa [recomputeIrq_cfg, storeShared_cfg]))
  exact ⟨fun hm => by rw [enable, storeShared_of_single hm], fun hm => by rw [enable, storeShared_of_mirror hm]⟩

/-- Bit 1 of two bytes differs exactly if the mask of R175 finds it in their difference. -/
theorem xor_and_two_ne_zero (a b : Byte) : ((a ^^^ b) &&& 0x02#8 != 0#8) = (a.getLsbD 1 != b.getLsbD 1) := by
  have mask : ∀ x : Byte, (x &&& 0x02#8 != 0#8) = x.getLsbD 1 := by decide
  rw [mask, BitVec.getLsbD_xor]

/-- The write of WR5 before the timing: the store, and the event if bit 1 changed and there is a sink (R175, R283). -/
theorem storeReg_five_reportingRts (c : Channel) (v : Byte) (s : State) :
    (if ((s.chan c).wr 5 ^^^ v) &&& 0x02#8 != 0#8 then setRts c (v.getLsbD 1) (storeReg c 5 v s)
      else storeReg c 5 v s) =
      { s.updChan c (fun ch => ch.setWr 5 v) with
        controlIndex := 0#4
        events := s.events ++ if (((s.chan c).wr 5).getLsbD 1 != v.getLsbD 1) && s.cfg.sinks.rts.get c
          then [.rts c (v.getLsbD 1)] else [] } := by
  rw [xor_and_two_ne_zero, setRts_eq, storeReg_eq]
  split
  case isTrue h =>
    rw [h, Bool.true_and]
    cases c <;> rfl
  case isFalse h =>
    rw [Bool.eq_false_iff.mpr h]
    cases c <;> simp

/-- Settles O33: the store with its event, and the timing if `FORMAT_REGS` holds 5. -/
theorem transmitControlWriteReportsRts : Obligations.TransmitControlWriteReportsRts := by
  intro c v s changed stored
  have hcfg : stored.cfg = s.cfg := updChan_cfg s c _
  calc exec (.wcWR5 c v) s = .next (ifFormat c 5 stored) :=
        congrArg (fun u => Host.Outcome.next (ifFormat c 5 u)) (storeReg_five_reportingRts c v s)
    _ = .next (if s.cfg.formatRegs.contains 5 then stored.retimed c else stored) := by
      rw [ifFormat_eq, State.retimedFor, hcfg]

/-! ### The pair of writes that reaches a register (R123) -/

/-- The pointer byte of register `n` leaves the pointer at `n`: the null command below 8, point high from 8 on. -/
theorem pointerByte_pointer : ∀ n : RegNum,
    pointerAfter (cmdField (pointerByte n)) (ptrField (pointerByte n)) = BitVec.ofFin n := by decide

theorem wreg_of_ne_zero {n : RegNum} (hn : n ≠ 0) (c : Channel) (v : Byte) :
    wreg c n v = [writeControlOp c (pointerByte n), writeControlOp c v] := if_neg hn

@[simp] theorem storeShared_wr (c : Channel) (i : RegNum) (v : Byte) (s : State) :
    ((storeShared c i v s).chan c).wr i = v := by
  rw [storeShared_eq]
  split <;> cases c <;> simp

/-- The data write stores the byte in WR8; the transmit check touches no write register (R255). -/
theorem writeData_wr (c : Channel) (v : Byte) (s : State) : ((writeData c v s).chan c).wr 8 = v := by
  rw [writeData, ifFormat_wr, ← writeRegs_get, (onlyRaises_checkTransmit c _).writeRegs, clearCondition_tx]
  simp

/-- A write with the pointer at `n`, not 0, leaves the byte in register `n` (R170). -/
theorem exec_decodeWriteControl_stores {n : RegNum} (hn : n ≠ 0) (c : Channel) (v : Byte) (s : State) :
    ∃ t, exec (decodeWriteControl (BitVec.ofFin n) c v) s = .next t ∧ (t.chan c).wr n = v := by
  obtain rfl | h5 := eq_or_ne n 5
  · exact ⟨_, rfl, by rw [ifFormat_wr, storeReg_five_reportingRts]; cases c <;> simp⟩
  obtain rfl | h8 := eq_or_ne n 8
  · exact ⟨_, rfl, writeData_wr c v _⟩
  fin_cases n <;> (try contradiction) <;>
    exact ⟨_, rfl, by simp [recomputeTiming_eq, recomputeIrq_eq]⟩

/-- Settles O35: the first operation is a command byte that points at the register, the second its write. -/
theorem registerWritePairLands : Obligations.RegisterWritePairLands := by
  intro s c n v rest hs hci hn hin
  have hin : s.inbox = writeControlOp c (pointerByte n) :: writeControlOp c v :: rest := by
    rw [hin, wreg_of_ne_zero hn]
    rfl
  obtain ⟨t, hcommand, hpointer, _⟩ := exec_decodeCommand_pointer c (pointerByte n)
    (beginOp (writeControlOp c v :: rest) s)
  rw [pointerByte_pointer] at hpointer
  have hfirst : step s = .next t := by
    rw [step_of_ready hs hin (decode_writeControlOp _ c _), hci, decodeWriteControl_zero, hcommand]
  obtain ⟨_, hinbox⟩ := wiringNeverChanges _ _ _ hcommand
  have ht : t.Ready := exec_ready hcommand hs
  obtain ⟨u, hwrite, hstored⟩ := exec_decodeWriteControl_stores hn c v (beginOp rest t)
  have hci' : BitVec.ofFin n ≠ 0#4 := fun h => hn (congrArg BitVec.toFin h)
  obtain ⟨u', hwrite', hzero⟩ := exec_decodeWriteControl_pointer hci' c v (beginOp rest t)
  obtain rfl := Host.Outcome.next.inj (hwrite.symm.trans hwrite')
  have hsecond : step t = .next u := by
    rw [step_of_ready ht hinbox (decode_writeControlOp _ c v), hpointer, hwrite]
  obtain ⟨_, hrest⟩ := wiringNeverChanges _ _ _ hwrite
  exact ⟨u, (run_succ_of_step Sys2Proof.core hfirst 1).trans (run_succ_of_step Sys2Proof.core hsecond 0),
    hstored, hzero, hrest⟩

end Sys2Proof.Machine
end

section
/-! The reads with a synthesized value (R201, R203), the data register (R209, R255, R256), the lines (R280 to R282)
and the transport (R290, R291): exact next states. -/

namespace Sys2Proof.Machine

/-! ### Reads -/

/-- Settles O43: the composed byte is `rr0Value`, which a read without side effects returns. -/
theorem statusReadComposesRR0 : Obligations.StatusReadComposesRR0 := fun _ _ => rfl

/-- The status code as a number (R203). -/
theorem statusCode_toNat (p : Byte) : (statusCode p).toNat =
    if p.getLsbD 5 then 6 else if p.getLsbD 4 then 4 else if p.getLsbD 3 then 5
    else if p.getLsbD 2 then 2 else if p.getLsbD 1 then 0 else if p.getLsbD 0 then 1 else 3 := by
  unfold statusCode
  repeat' split
  all_goals rfl

/-- Where the two layouts of the default vector put the code (R203). -/
theorem code_in_low_bits : ∀ k : BitVec 3, k.setWidth 8 <<< 1 = BitVec.ofNat 8 (k.toNat * 2) := by decide

theorem reversed_code_in_high_bits : ∀ k : BitVec 3, (reverse3 k).setWidth 8 <<< 4 =
    BitVec.ofNat 8 (k.toNat % 2 * 64 + k.toNat / 2 % 2 * 32 + k.toNat / 4 * 16) := by decide

/-- Settles O45: the read returns `vectorEncode`; under the default its two layouts are the two arithmetic ones. -/
theorem vectorRead : Obligations.VectorRead := by
  intro c s w2 w9 p code
  refine ⟨rfl, fun hdefault => ?_⟩
  have hcode : code = (statusCode p).toNat := (statusCode_toNat p).symm
  have hencode (d : Channel) : vectorEncode s.cfg w2 w9 p d = defaultVectorEncode w2 w9 p d := by
    rw [vectorEncode, hdefault]
  rw [hencode, hencode, hcode, ← code_in_low_bits, ← reversed_code_in_high_bits]
  exact ⟨rfl, rfl⟩

/-! ### The data write -/

theorem ringFull_eq_true {cfg : Cfg} {q : List Byte} : ringFull cfg q = true ↔ q.length = cfg.ringCap - 1 := by
  rw [ringFull_eq_decide, decide_eq_true_iff]

theorem ringFull_eq_false {cfg : Cfg} {q : List Byte} : ringFull cfg q = false ↔ q.length ≠ cfg.ringCap - 1 := by
  rw [ringFull_eq_decide, decide_eq_false_iff_not]

/-- Without quota or room the transmit check does nothing (R253). -/
theorem checkTransmit_idle {c : Channel} {s : State}
    (h : (s.chan c).writeQuota = 0 ∨ (s.chan c).txBuffer.length = s.cfg.ringCap - 1) : checkTransmit c s = s := by
  rcases checkTransmit_cases c s with ⟨_, heq⟩ | ⟨hquota, hroom, _⟩ | ⟨hquota, hroom, _⟩
  · exact heq
  · exact absurd h (not_or.mpr ⟨hquota, ringFull_eq_false.mp hroom⟩)
  · exact absurd h (not_or.mpr ⟨hquota, ringFull_eq_false.mp hroom⟩)

/-- The transmit sticky bit as a raise sets it (R301). -/
theorem or_ite_zero (p m : Byte) (b : Bool) : p ||| (if b then m else 0#8) = if b then p ||| m else p := by
  cases b
  · exact BitVec.or_zero
  · rfl

/-- With quota, room and a byte in the latch the transmit check sends it (R253). -/
theorem checkTransmit_sends {c : Channel} {s : State} (hquota : (s.chan c).writeQuota ≠ 0)
    (hroom : (s.chan c).txBuffer.length ≠ s.cfg.ringCap - 1) (hlatch : (s.chan c).txdEmpty = false) :
    checkTransmit c s = State.withSticky
      { s.updChan c (fun ch => { ch with
          txBuffer := ch.txBuffer ++ [(s.chan c).txLatch], txdEmpty := true, writeQuota := ch.writeQuota - 1 }) with
        events := s.events ++ if s.cfg.sinks.outputByte.get c then [.outputByte c (s.chan c).txLatch] else [] }
      (if ((s.chan c).wr 1).getLsbD 1 then s.rr3 ||| sticky c .tx else s.rr3) := by
  rcases checkTransmit_cases c s with ⟨hidle, _⟩ | ⟨_, _, hempty, _⟩ | ⟨_, _, _, heq⟩
  · rcases hidle with h | h
    · exact absurd h hquota
    · exact absurd (ringFull_eq_true.mp h) hroom
  · rw [hlatch] at hempty
    cases hempty
  · rw [heq, raiseCondition_tx, emit_eq, ← or_ite_zero]
    cases c <;> rfl

/-- A data write into a latch that the transmit check leaves alone (R255). -/
theorem writeData_waits {c : Channel} {s : State} (v : Byte)
    (hidle : (s.chan c).writeQuota = 0 ∨ (s.chan c).txBuffer.length = s.cfg.ringCap - 1) :
    writeData c v s = (State.withSticky (s.updChan c fun ch => { ch.setWr 8 v with txdEmpty := false })
      (s.rr3 &&& ~~~sticky c .tx)).retimedFor c 8 := by
  rw [writeData_eq, checkTransmit_idle (by simpa using hidle)]

/-- A data write whose byte the transmit check sends (R253, R255). -/
theorem writeData_sends {c : Channel} {s : State} (v : Byte) (hquota : (s.chan c).writeQuota ≠ 0)
    (hroom : (s.chan c).txBuffer.length ≠ s.cfg.ringCap - 1) :
    writeData c v s =
      let p := s.rr3 &&& ~~~sticky c .tx
      let cleared := State.withSticky (s.updChan c fun ch => { ch.setWr 8 v with
        txBuffer := ch.txBuffer ++ [v], txdEmpty := true, writeQuota := ch.writeQuota - 1 }) p
      let sent := { cleared with
        events := cleared.events ++ if s.cfg.sinks.outputByte.get c then [.outputByte c v] else [] }
      (State.withSticky sent (if ((s.chan c).wr 1).getLsbD 1 then p ||| sticky c .tx else p)).retimedFor c 8 := by
  rw [writeData_eq, checkTransmit_sends (by simpa using hquota) (by simpa using hroom) (by simp)]
  have hlatch : ((State.withSticky (s.updChan c fun ch => { ch.setWr 8 v with txdEmpty := false })
      (s.rr3 &&& ~~~sticky c .tx)).chan c).txLatch = v := by simp [ChannelState.txLatch]
  have henable : ((State.withSticky (s.updChan c fun ch => { ch.setWr 8 v with txdEmpty := false })
      (s.rr3 &&& ~~~sticky c .tx)).chan c).wr 1 = (s.chan c).wr 1 := by simp
  rw [hlatch, henable]
  cases c <;> rfl

@[simp] theorem consumePointer_cfg (s : State) : (consumePointer s).cfg = s.cfg := rfl

/-- Settles O49: through the control port the same with the pointer consumed, which takes no part in it. -/
theorem writeDataWaitsInLatch : Obligations.WriteDataWaitsInLatch := by
  intro c v s hidle t
  refine ⟨congrArg _ (writeData_waits v hidle), ?_⟩
  have hport : exec (.wcWR8 c v) s = .next (writeData c v (consumePointer s)) := rfl
  rw [hport, writeData_waits v (by simpa using hidle), ← retimedFor_pointer]
  cases c <;> rfl

/-- Settles O50, in the same way. -/
theorem writeDataSendsAtOnce : Obligations.WriteDataSendsAtOnce := by
  intro c v s hquota hroom p cleared sent raised t
  refine ⟨congrArg _ (writeData_sends v hquota hroom), ?_⟩
  have hport : exec (.wcWR8 c v) s = .next (writeData c v (consumePointer s)) := rfl
  rw [hport, writeData_sends v (by simpa using hquota) (by simpa using hroom), ← retimedFor_pointer]
  cases c <;> rfl

/-! ### The data read -/

/-- With nothing queued, no quota or the receiver disabled the receive check does nothing (R251). -/
theorem checkReceive_idle {c : Channel} {s : State}
    (h : (s.chan c).rxBuffer = [] ∨ (s.chan c).readQuota = 0 ∨ ((s.chan c).wr 3).getLsbD 0 = false) :
    checkReceive c s = s := by
  have blocked {v : Byte} {rest : List Byte} (hb : (s.chan c).rxBuffer = v :: rest) (hq : (s.chan c).readQuota ≠ 0)
      (he : (s.chan c).rxEnable = true) : False := by
    rcases h with h | h | h
    · rw [hb] at h
      cases h
    · exact hq h
    · rw [ChannelState.rxEnable, h] at he
      cases he
  rcases checkReceive_cases c s with heq | ⟨v, rest, hb, hq, he, _⟩ | ⟨v, rest, hb, hq, he, _⟩ |
    ⟨v, rest, hb, hq, he, _⟩
  · exact heq
  · exact (blocked hb hq he).elim
  · exact (blocked hb hq he).elim
  · exact (blocked hb hq he).elim

/-- With a byte in the latch the trigger is the mode's: always in mode 2, when armed in mode 1 (R304). -/
theorem rxFires_of_full {ch : ChannelState} (h : ch.rxdEmpty = false) : rxFires ch = true ↔
    (ch.wr 1).extractLsb' 3 2 = 2#2 ∨ ((ch.wr 1).extractLsb' 3 2 = 1#2 ∧ ch.armed = true) := by
  simp only [rxFires, h, ChannelState.rxIntMode, Bool.not_false, Bool.and_true, Bool.or_eq_true, Bool.and_eq_true,
    beq_iff_eq]
  exact or_comm

/-- With a byte queued, quota, the receiver enabled and the latch empty, the receive check delivers the byte (R251): the
latch takes it, the channel is disarmed, and the trigger of the mode sets the sticky bit (R304). -/
theorem checkReceive_delivers {c : Channel} {s : State} {v : Byte} {rest : List Byte}
    (hbuffer : (s.chan c).rxBuffer = v :: rest) (hquota : (s.chan c).readQuota ≠ 0)
    (henable : ((s.chan c).wr 3).getLsbD 0 = true) (hlatch : (s.chan c).rxdEmpty = true) :
    checkReceive c s =
      let mode := ((s.chan c).wr 1).extractLsb' 3 2
      let pulled := { s.updChan c (fun ch => { ch.setRrs 8 v with
          rxBuffer := rest, rxdEmpty := false, readQuota := ch.readQuota - 1, armed := false }) with
        events := s.events ++ if s.cfg.sinks.inputAvailable.get c then [.inputAvailable c true] else [] }
      if mode = 2#2 ∨ (mode = 1#2 ∧ (s.chan c).armed = true)
        then State.withSticky pulled (s.rr3 ||| sticky c .rx) else pulled := by
  have hcheck : checkReceive c s = rxTrigger c (emit (.inputAvailable c true) (s.updChan c fun ch =>
      { ch.setRrs 8 v with rxBuffer := rest, rxdEmpty := false, readQuota := ch.readQuota - 1 })) := by
    simp [checkReceive, hbuffer, hquota, hlatch, ChannelState.rxEnable, henable]
  have hfires : rxFires { (s.chan c).setRrs 8 v with
        rxBuffer := rest, rxdEmpty := false, readQuota := (s.chan c).readQuota - 1 } = true ↔
      ((s.chan c).wr 1).extractLsb' 3 2 = 2#2 ∨ (((s.chan c).wr 1).extractLsb' 3 2 = 1#2 ∧ (s.chan c).armed = true) :=
    rxFires_of_full rfl
  rw [hcheck]
  have htrigger := rxTrigger_cases c (emit (.inputAvailable c true) (s.updChan c fun ch =>
    { ch.setRrs 8 v with rxBuffer := rest, rxdEmpty := false, readQuota := ch.readQuota - 1 }))
  rw [emit_chan, chan_updChan] at htrigger
  rcases htrigger with ⟨h, heq⟩ | ⟨h, heq⟩ <;> rw [heq, emit_eq]
  · refine Eq.trans ?_ (if_pos (hfires.mp h)).symm
    cases c <;> rfl
  · refine Eq.trans ?_ (if_neg fun h' => Bool.false_ne_true (h.symm.trans (hfires.mpr h'))).symm
    cases c <;> rfl

/-- A data read that the receive check leaves alone (R256). -/
theorem readData_empties {c : Channel} {s : State}
    (h : (s.chan c).rxBuffer = [] ∨ (s.chan c).readQuota = 0 ∨ ((s.chan c).wr 3).getLsbD 0 = false) :
    readData c s =
      State.withSticky (s.updChan c fun ch => { ch with rxdEmpty := true }) (s.rr3 &&& ~~~sticky c .rx) := by
  rw [readData_eq, checkReceive_idle (by simpa using h)]

/-- A data read that brings the next byte to the latch (R251, R256). -/
theorem readData_pulls {c : Channel} {s : State} {v : Byte} {rest : List Byte}
    (hbuffer : (s.chan c).rxBuffer = v :: rest) (hquota : (s.chan c).readQuota ≠ 0)
    (henable : ((s.chan c).wr 3).getLsbD 0 = true) :
    readData c s =
      let mode := ((s.chan c).wr 1).extractLsb' 3 2
      let p := s.rr3 &&& ~~~sticky c .rx
      let cleared := State.withSticky (s.updChan c fun ch => { ch.setRrs 8 v with
        rxBuffer := rest, rxdEmpty := false, readQuota := ch.readQuota - 1, armed := false }) p
      let pulled := { cleared with
        events := cleared.events ++ if s.cfg.sinks.inputAvailable.get c then [.inputAvailable c true] else [] }
      if mode = 2#2 ∨ (mode = 1#2 ∧ (s.chan c).armed = true)
        then State.withSticky pulled (p ||| sticky c .rx) else pulled := by
  rw [readData_eq, checkReceive_delivers (by simpa using hbuffer) (by simpa using hquota) (by simpa using henable)
    (by simp)]
  cases c <;> rfl

/-- Settles O51: the two ports differ in the pointer alone. -/
theorem readDataEmptiesLatch : Obligations.ReadDataEmptiesLatch := by
  intro c s hidle t
  have hdata : exec (.rd c) s = .next (returnByte (s.chan c).rxLatch (readData c s)) := rfl
  have hport : exec (.rcRR8 c) s = .next (returnByte (s.chan c).rxLatch (readData c (consumePointer s))) := rfl
  rw [hdata, hport, readData_empties hidle, readData_empties (by simpa using hidle)]
  exact ⟨rfl, by cases c <;> rfl⟩

/-- Settles O52, in the same way. -/
theorem readDataPullsNextByte : Obligations.ReadDataPullsNextByte := by
  intro c s v rest hbuffer hquota henable mode p cleared pulled fired t
  have hdata : exec (.rd c) s = .next (returnByte (s.chan c).rxLatch (readData c s)) := rfl
  have hport : exec (.rcRR8 c) s = .next (returnByte (s.chan c).rxLatch (readData c (consumePointer s))) := rfl
  rw [hdata, hport, readData_pulls hbuffer hquota henable,
    readData_pulls (by simpa using hbuffer) (by simpa using hquota) (by simpa using henable)]
  refine ⟨rfl, congrArg Host.Outcome.next ?_⟩
  simp only [consumePointer_chan, t, fired, mode]
  split <;> cases c <;> rfl

/-! ### Lines and transport -/

/-- A line change that raises nothing (R280, R301): no bit that WR15 enables, or WR1 bit 0 clear. -/
theorem setExternalStatus_masked {c : Channel} {bit : Byte} {active : Bool} {s : State} (hline : s.irqLine = irqLevel s)
    (h : ((s.chan c).rrs 0 ^^^ lineByte s.cfg bit ((s.chan c).rrs 0) active) &&& (s.chan c).wr 15 = 0#8 ∨
      ((s.chan c).wr 1).getLsbD 0 = false) :
    setExternalStatus c bit active s =
      s.updChan c fun ch => ch.setRrs 0 (lineByte s.cfg bit ((s.chan c).rrs 0) active) := by
  rcases setExternalStatus_cases c bit active s with ⟨_, heq⟩ | ⟨hchanged, heq⟩
  · exact heq
  · have hdisabled := h.resolve_left hchanged
    have hlevel : irqLevel (s.updChan c fun ch => ch.setRrs 0 (lineByte s.cfg bit ((s.chan c).rrs 0) active)) =
        s.irqLine := by
      rw [hline]
      cases c <;> rfl
    rw [heq, raiseCondition_ext_disabled c _ (by simpa [ChannelState.extIntEnable] using hdisabled), ← recomputeIrq_eq,
      recomputeIrq_of_line (by rw [hlevel, updChan_irqLine])]

/-- Settles O53: each line operation is `setExternalStatus` on its own bit. -/
theorem maskedLineChangeOnlyStores : Obligations.MaskedLineChangeOnlyStores := by
  intro c active s hline old new masked
  exact ⟨fun h => congrArg _ (setExternalStatus_masked hline h), fun h => congrArg _ (setExternalStatus_masked hline h)⟩

/-- A line change that raises the external/status condition (R280, R301, R302). -/
theorem setExternalStatus_raises {c : Channel} {bit : Byte} {active : Bool} {s : State}
    (henable : ((s.chan c).wr 1).getLsbD 0 = true)
    (hchanged : ((s.chan c).rrs 0 ^^^ lineByte s.cfg bit ((s.chan c).rrs 0) active) &&& (s.chan c).wr 15 ≠ 0#8) :
    setExternalStatus c bit active s = State.withSticky
      (s.updChan c fun ch => { ch.setRrs 0 (lineByte s.cfg bit ((s.chan c).rrs 0) active) with
        statusLatchMask := ch.wr 15 &&& extMask s.cfg
        statusLatchValue := lineByte s.cfg bit ((s.chan c).rrs 0) active })
      (s.rr3 ||| sticky c .ext) := by
  rcases setExternalStatus_cases c bit active s with ⟨hsame, _⟩ | ⟨_, heq⟩
  · exact absurd hsame hchanged
  · rw [heq, raiseCondition_ext_enabled c _ (by simpa [ChannelState.extIntEnable] using henable), captureStatusLatch,
      updChan_updChan, updChan_rr3, updChan_cfg]
    simp

/-- Settles O54, in the same way. -/
theorem enabledLineChangeRaises : Obligations.EnabledLineChangeRaises := by
  intro c active s henable old new raised
  exact ⟨fun h => congrArg _ (setExternalStatus_raises henable h),
    fun h => congrArg _ (setExternalStatus_raises henable h)⟩

/-- Settles O55: the two tests of the row, that of the buffer said of its length. -/
theorem receiveByteQueuesOrDrops : Obligations.ReceiveByteQueuesOrDrops := by
  intro c v s full
  have hexec : exec (.rxb c v) s = .next (if ringFull s.cfg (s.chan c).rxBuffer then
      if s.cfg.rxOverrunReport then s.updChan c fun ch => ch.setRrs 1 (ch.rrs 1 ||| s.cfg.rr1Overrun) else s
    else s.updChan c fun ch => { ch with rxBuffer := ch.rxBuffer ++ [v] }) := rfl
  refine ⟨fun hroom => ?_, fun hfull hreport => ?_, fun hfull hreport => ?_⟩
  · rw [hexec, ringFull_eq_false.mpr hroom]
    rfl
  · rw [hexec, ringFull_eq_true.mpr hfull, hreport]
    rfl
  · rw [hexec, ringFull_eq_true.mpr hfull, hreport]
    rfl

/-- Settles O56: the row matches on the buffer. -/
theorem sendByteTakesHeadOrSentinel : Obligations.SendByteTakesHeadOrSentinel := by
  intro c s
  refine ⟨fun hbuffer => ?_, fun v rest hbuffer => ?_⟩
  · simp only [exec, execTxb, hbuffer]
    rfl
  · simp only [exec, execTxb, hbuffer]
    rfl

end Sys2Proof.Machine
end

section
/-! The index form of a ring buffer (R93) against the queue (R92): where the indices stand after each operation, how
many bytes lie between them, and what the slots between them hold. -/

namespace Sys2Proof.Machine

/-! ### Indices modulo the number of slots -/

/-- The next index: one further on, or 0 behind the last. -/
theorem succ_mod_cases {x n : Nat} (h : x < n) : (x + 1) % n = x + 1 ∧ x + 1 < n ∨ (x + 1) % n = 0 ∧ x + 1 = n := by
  rcases Nat.lt_or_eq_of_le (Nat.succ_le_of_lt h) with hlt | rfl
  · exact .inl ⟨Nat.mod_eq_of_lt hlt, hlt⟩
  · exact .inr ⟨Nat.mod_self _, rfl⟩

/-- An index that has gone round at most once. -/
theorem mod_cases {x n : Nat} (h : x < 2 * n) : x % n = x ∧ x < n ∨ x % n = x - n ∧ n ≤ x := by
  rcases Nat.lt_or_ge x n with hlt | hge
  · exact .inl ⟨Nat.mod_eq_of_lt hlt, hlt⟩
  · exact .inr ⟨by rw [Nat.mod_eq_sub_mod hge, Nat.mod_eq_of_lt (by omega)], hge⟩

theorem Ring.wf_iff {r : Ring} : r.wf = true ↔ 2 ≤ r.cap ∧ r.wrIdx < r.cap ∧ r.rdIdx < r.cap := decide_eq_true_iff

/-- The count is the distance from the read index to the write index, going round at most once. -/
theorem Ring.count_spec {r : Ring} (h : r.wf = true) :
    r.count < r.cap ∧ (r.rdIdx + r.count = r.wrIdx ∨ r.rdIdx + r.count = r.wrIdx + r.cap) := by
  obtain ⟨hcap, hwr, hrd⟩ := Ring.wf_iff.mp h
  have hcount : r.count = (r.wrIdx + r.cap - r.rdIdx) % r.cap := rfl
  rcases mod_cases (x := r.wrIdx + r.cap - r.rdIdx) (n := r.cap) (by omega) with ⟨heq, _⟩ | ⟨heq, _⟩ <;> omega

/-- There is one such distance. -/
theorem Ring.count_eq_of {r : Ring} (h : r.wf = true) {n : Nat} (hn : n < r.cap)
    (hd : r.rdIdx + n = r.wrIdx ∨ r.rdIdx + n = r.wrIdx + r.cap) : r.count = n := by
  have hspec := Ring.count_spec h
  have hidx := Ring.wf_iff.mp h
  omega

/-- The byte `k` places behind the head of the queue stands in this slot. -/
def Ring.slot (r : Ring) (k : Nat) : Nat := (r.rdIdx + k) % r.cap

theorem Ring.toQueue_eq (r : Ring) : r.toQueue = (List.range r.count).map fun k => r.buf.getD (r.slot k) 0 := rfl

theorem Ring.toQueue_length (r : Ring) : r.toQueue.length = r.count := by
  rw [Ring.toQueue_eq, List.length_map, List.length_range]

/-- The slot behind the last byte is the one at the write index. -/
theorem Ring.slot_count {r : Ring} (h : r.wf = true) : r.slot r.count = r.wrIdx := by
  obtain ⟨hcap, hwr, hrd⟩ := Ring.wf_iff.mp h
  obtain ⟨hlt, hcount⟩ := Ring.count_spec h
  have hslot : r.slot r.count = (r.rdIdx + r.count) % r.cap := rfl
  rcases mod_cases (x := r.rdIdx + r.count) (n := r.cap) (by omega) with ⟨heq, _⟩ | ⟨heq, _⟩ <;> omega

/-- No byte of the queue stands at the write index. -/
theorem Ring.slot_ne_wrIdx {r : Ring} (h : r.wf = true) {k : Nat} (hk : k < r.count) : r.slot k ≠ r.wrIdx := by
  obtain ⟨hcap, hwr, hrd⟩ := Ring.wf_iff.mp h
  obtain ⟨hlt, hcount⟩ := Ring.count_spec h
  have hslot : r.slot k = (r.rdIdx + k) % r.cap := rfl
  rcases mod_cases (x := r.rdIdx + k) (n := r.cap) (by omega) with ⟨heq, _⟩ | ⟨heq, _⟩ <;> omega

/-! ### Empty and full -/

theorem Ring.isEmpty_iff {r : Ring} (h : r.wf = true) : r.isEmpty = true ↔ r.count = 0 := by
  obtain ⟨hcap, hwr, hrd⟩ := Ring.wf_iff.mp h
  have hcount := Ring.count_spec h
  rw [Ring.isEmpty, beq_iff_eq]
  omega

theorem Ring.isFull_iff {r : Ring} (h : r.wf = true) : r.isFull = true ↔ r.count = r.cap - 1 := by
  obtain ⟨hcap, hwr, hrd⟩ := Ring.wf_iff.mp h
  have hcount := Ring.count_spec h
  rw [Ring.isFull, beq_iff_eq]
  rcases succ_mod_cases hwr with ⟨heq, _⟩ | ⟨heq, _⟩ <;> omega

/-! ### Enqueue and dequeue -/

theorem Ring.cap_enqueue (r : Ring) (v : Byte) : (r.enqueue v).cap = r.cap := List.length_set

theorem Ring.wf_enqueue {r : Ring} (h : r.wf = true) (v : Byte) : (r.enqueue v).wf = true := by
  obtain ⟨hcap, hwr, hrd⟩ := Ring.wf_iff.mp h
  refine Ring.wf_iff.mpr ?_
  rw [Ring.cap_enqueue]
  exact ⟨hcap, Nat.mod_lt _ (by omega), hrd⟩

theorem Ring.count_enqueue {r : Ring} (h : r.wf = true) (hfull : r.count ≠ r.cap - 1) (v : Byte) :
    (r.enqueue v).count = r.count + 1 := by
  obtain ⟨hcap, hwr, hrd⟩ := Ring.wf_iff.mp h
  obtain ⟨hlt, hcount⟩ := Ring.count_spec h
  apply Ring.count_eq_of (Ring.wf_enqueue h v) <;> rw [Ring.cap_enqueue]
  · omega
  · show r.rdIdx + (r.count + 1) = (r.wrIdx + 1) % r.cap ∨ r.rdIdx + (r.count + 1) = (r.wrIdx + 1) % r.cap + r.cap
    rcases succ_mod_cases hwr with ⟨heq, _⟩ | ⟨heq, _⟩ <;> omega

/-- The slots are read from the same index, modulo the same number. -/
theorem Ring.slot_enqueue (r : Ring) (v : Byte) (k : Nat) : (r.enqueue v).slot k = r.slot k := by
  rw [Ring.slot, Ring.cap_enqueue]
  rfl

/-- The byte goes to the tail; the slots of the others are not the one it is written to. -/
theorem Ring.toQueue_enqueue {r : Ring} (h : r.wf = true) (hfull : r.count ≠ r.cap - 1) (v : Byte) :
    (r.enqueue v).toQueue = r.toQueue ++ [v] := by
  obtain ⟨hcap, hwr, hrd⟩ := Ring.wf_iff.mp h
  have hbuf : (r.enqueue v).buf = r.buf.set r.wrIdx v := rfl
  have hlast : (r.buf.set r.wrIdx v).getD (r.slot r.count) 0 = v := by
    rw [Ring.slot_count h, List.getD_eq_getElem?_getD, List.getElem?_set_self hwr, Option.getD_some]
  have hothers : ∀ k ∈ List.range r.count,
      (r.buf.set r.wrIdx v).getD (r.slot k) 0 = r.buf.getD (r.slot k) 0 := by
    intro k hk
    have hne := Ring.slot_ne_wrIdx h (List.mem_range.mp hk)
    rw [List.getD_eq_getElem?_getD, List.getElem?_set_ne hne.symm, ← List.getD_eq_getElem?_getD]
  rw [Ring.toQueue_eq, Ring.count_enqueue h hfull, List.range_succ, List.map_append, List.map_singleton, hbuf]
  simp only [Ring.slot_enqueue]
  rw [hlast, List.map_congr_left hothers, Ring.toQueue_eq]

theorem Ring.wf_dequeue {r : Ring} (h : r.wf = true) : r.dequeue.wf = true := by
  obtain ⟨hcap, hwr, hrd⟩ := Ring.wf_iff.mp h
  exact Ring.wf_iff.mpr ⟨hcap, hwr, Nat.mod_lt _ (by omega)⟩

theorem Ring.count_dequeue {r : Ring} (h : r.wf = true) (hne : r.count ≠ 0) : r.count = r.dequeue.count + 1 := by
  obtain ⟨hcap, hwr, hrd⟩ := Ring.wf_iff.mp h
  obtain ⟨hlt, hcount⟩ := Ring.count_spec h
  have hpred : r.dequeue.count = r.count - 1 := by
    apply Ring.count_eq_of (Ring.wf_dequeue h)
    · show r.count - 1 < r.cap
      omega
    · show (r.rdIdx + 1) % r.cap + (r.count - 1) = r.wrIdx ∨ (r.rdIdx + 1) % r.cap + (r.count - 1) = r.wrIdx + r.cap
      rcases succ_mod_cases hrd with ⟨heq, _⟩ | ⟨heq, _⟩ <;> omega
  omega

/-- One place further from an index one further on. -/
theorem Ring.slot_dequeue (r : Ring) (k : Nat) : r.slot (k + 1) = r.dequeue.slot k := by
  show (r.rdIdx + (k + 1)) % r.cap = ((r.rdIdx + 1) % r.cap + k) % r.cap
  rw [Nat.mod_add_mod, Nat.add_assoc, Nat.add_comm k 1]

theorem Ring.head_eq {r : Ring} (h : r.wf = true) : r.head = r.buf.getD (r.slot 0) 0 := by
  obtain ⟨_, _, hrd⟩ := Ring.wf_iff.mp h
  rw [Ring.slot, Nat.add_zero, Nat.mod_eq_of_lt hrd, Ring.head]

theorem Ring.toQueue_eq_cons {r : Ring} (h : r.wf = true) (hne : r.count ≠ 0) :
    r.toQueue = r.head :: r.dequeue.toQueue := by
  rw [Ring.toQueue_eq, Ring.count_dequeue h hne, List.range_succ_eq_map, List.map_cons, List.map_map, ← Ring.head_eq h]
  refine congrArg (r.head :: ·) (List.map_congr_left fun k _ => ?_)
  exact congrArg (r.buf.getD · 0) (Ring.slot_dequeue r k)

/-! ### Clearing -/

theorem Ring.wf_clear {r : Ring} (h : r.wf = true) : r.clear.wf = true := by
  obtain ⟨hcap, _, _⟩ := Ring.wf_iff.mp h
  have hpos : 0 < r.cap := by omega
  exact Ring.wf_iff.mpr ⟨hcap, hpos, hpos⟩

theorem Ring.toQueue_clear {r : Ring} (h : r.wf = true) : r.clear.toQueue = [] := by
  have hcount : r.clear.count = 0 := (Ring.isEmpty_iff (Ring.wf_clear h)).mp rfl
  rw [← List.length_eq_zero_iff, Ring.toQueue_length, hcount]

/-- Settles O24: the count says when the queue is empty and when it is full; enqueue writes the slot behind the last
byte, dequeue drops the first slot. -/
theorem ringIndexFormIsQueue : Obligations.RingIndexFormIsQueue := by
  intro r h
  refine ⟨?_, ?_, fun v hfull => ⟨Ring.wf_enqueue h v, ?_⟩, fun hempty => ⟨Ring.wf_dequeue h, ?_⟩, Ring.wf_clear h,
    Ring.toQueue_clear h⟩
  · rw [Ring.isEmpty_iff h, ← Ring.toQueue_length, List.length_eq_zero_iff]
  · rw [Ring.isFull_iff h, Ring.toQueue_length]
  · exact Ring.toQueue_enqueue h (fun hc => Bool.false_ne_true (hfull.symm.trans ((Ring.isFull_iff h).mpr hc))) v
  · exact Ring.toQueue_eq_cons h fun hc => Bool.false_ne_true (hempty.symm.trans ((Ring.isEmpty_iff h).mpr hc))

end Sys2Proof.Machine
end

section
/-! The order of the channels in `advance` (R230): what a check or a tick does to its channel is an effect that
depends on that channel's record and the wiring alone, and the effects of the two channels commute, but for the
events. -/

namespace Sys2Proof.Machine

/-- The state without its events. -/
def State.silent (s : State) : State := { s with events := [] }

/-- An effect on one channel: its record afterwards, and the sticky bits it sets, if it raises a condition at all. -/
structure Effect where
  record : ChannelState
  raises : Option Byte

/-- The state after an effect on channel `c`: a raise sets its bits and brings the IRQ line up to date (R301). -/
def State.effect (s : State) (c : Channel) (e : Effect) : State :=
  match e.raises with
  | none => s.setChan c e.record
  | some m => (s.setChan c e.record).withSticky (s.rr3 ||| m)

/-- One effect after another on the same channel. -/
def Effect.andThen (e e' : Effect) : Effect where
  record := e'.record
  raises := match e.raises, e'.raises with
    | none, r => r
    | some m, none => some m
    | some m, some m' => some (m ||| m')

/-- `f` has an effect on channel `c` that depends on the wiring and on the channel's record alone, and leaves WR9
alone. -/
def Local (c : Channel) (f : State → State) : Prop :=
  ∀ (cfg : Cfg) (ch : ChannelState), ∃ e : Effect, e.record.wr 9 = ch.wr 9 ∧
    ∀ s : State, s.cfg = cfg → s.chan c = ch → (f s).silent = (s.effect c e).silent

/-! ### Effects -/

@[simp] theorem silent_cfg (s : State) : s.silent.cfg = s.cfg := rfl

@[simp] theorem silent_chan (s : State) (c : Channel) : s.silent.chan c = s.chan c := by cases c <;> rfl

@[simp] theorem effect_cfg (s : State) (c : Channel) (e : Effect) : (s.effect c e).cfg = s.cfg := by
  unfold State.effect
  split <;> simp

@[simp] theorem effect_chan (s : State) (c : Channel) (e : Effect) : (s.effect c e).chan c = e.record := by
  unfold State.effect
  split <;> simp

@[simp] theorem effect_chan_other (s : State) (c : Channel) (e : Effect) :
    (s.effect c e).chan (otherChannel c) = s.chan (otherChannel c) := by
  unfold State.effect
  split <;> simp

/-- An effect does not look at the events. -/
theorem effect_silent (s : State) (c : Channel) (e : Effect) :
    (s.silent.effect c e).silent = (s.effect c e).silent := by
  unfold State.effect
  split <;> cases c <;> rfl

theorem effect_andThen {s : State} {c : Channel} {e e' : Effect} (h : e'.record.wr 9 = e.record.wr 9) :
    ((s.effect c e).effect c e').silent = (s.effect c (e.andThen e')).silent := by
  obtain ⟨r, m⟩ := e
  obtain ⟨r', m'⟩ := e'
  cases m <;> cases m' <;> cases c <;>
    simp_all [State.effect, Effect.andThen, State.silent, State.setChan, State.withSticky, State.mie, BitVec.or_assoc]

/-- Effects on the two channels commute, WR9 being left alone: the sticky bits are joined, and the line follows them. -/
theorem effect_comm {s : State} {e e' : Effect} (h : e.record.wr 9 = s.chanA.wr 9) :
    ((s.effect .A e).effect .B e').silent = ((s.effect .B e').effect .A e).silent := by
  obtain ⟨r, m⟩ := e
  obtain ⟨r', m'⟩ := e'
  cases m <;> cases m'
  case some.some m m' =>
    have hjoin : s.rr3 ||| m ||| m' = s.rr3 ||| m' ||| m := by rw [BitVec.or_assoc, BitVec.or_comm m, BitVec.or_assoc]
    simp_all [State.effect, State.silent, State.setChan, State.withSticky, State.mie]
  all_goals simp_all [State.effect, State.silent, State.setChan, State.withSticky, State.mie]

/-! ### Local operations -/

theorem Local.id (c : Channel) : Local c id := by
  refine fun cfg ch => ⟨⟨ch, none⟩, rfl, fun s _ hch => ?_⟩
  subst hch
  cases c <;> rfl

/-- A change of the record that leaves WR9 alone. -/
theorem Local.updChan (c : Channel) {g : Cfg → ChannelState → ChannelState} (hg : ∀ cfg ch, (g cfg ch).wr 9 = ch.wr 9) :
    Local c fun s => s.updChan c (g s.cfg) := by
  refine fun cfg ch => ⟨⟨g cfg ch, none⟩, hg cfg ch, fun s hcfg hch => ?_⟩
  subst hcfg hch
  rfl

theorem Local.emit (c : Channel) (e : Cfg → ChannelState → Event) : Local c fun s => emit (e s.cfg (s.chan c)) s := by
  refine fun cfg ch => ⟨⟨ch, none⟩, rfl, fun s _ hch => ?_⟩
  subst hch
  show (Machine.emit (e s.cfg (s.chan c)) s).silent = _
  rw [emit_eq]
  cases c <;> rfl

/-- Sticky bits set, and the line brought up to date. -/
theorem Local.raise (c : Channel) (m : ChannelState → Byte) :
    Local c fun s => s.withSticky (s.rr3 ||| m (s.chan c)) := by
  refine fun cfg ch => ⟨⟨ch, some (m ch)⟩, rfl, fun s _ hch => ?_⟩
  subst hch
  cases c <;> rfl

theorem Local.comp {c : Channel} {f g : State → State} (hg : Local c g) (hf : Local c f) :
    Local c fun s => g (f s) := by
  intro cfg ch
  obtain ⟨e, h9, he⟩ := hf cfg ch
  obtain ⟨e', h9', he'⟩ := hg cfg e.record
  refine ⟨e.andThen e', h9'.trans h9, fun s hcfg hch => ?_⟩
  have hsilent := he s hcfg hch
  have hfcfg : (f s).cfg = cfg := by
    rw [← silent_cfg, hsilent, silent_cfg, effect_cfg, hcfg]
  have hfchan : (f s).chan c = e.record := by
    rw [← silent_chan, hsilent, silent_chan, effect_chan]
  rw [he' (f s) hfcfg hfchan, ← effect_silent, hsilent, effect_silent, effect_andThen h9']

/-- What an operation does may depend on the wiring and on the record of its channel. -/
theorem Local.of_cases {c : Channel} {f : State → State}
    (h : ∀ cfg ch, ∃ g, Local c g ∧ ∀ s : State, s.cfg = cfg → s.chan c = ch → f s = g s) : Local c f := by
  intro cfg ch
  obtain ⟨g, hg, heq⟩ := h cfg ch
  obtain ⟨e, h9, he⟩ := hg cfg ch
  exact ⟨e, h9, fun s hcfg hch => (congrArg State.silent (heq s hcfg hch)).trans (he s hcfg hch)⟩

/-- A test of the wiring and of the record. -/
theorem Local.ite {c : Channel} {f g : State → State} (p : Cfg → ChannelState → Prop) [∀ cfg ch, Decidable (p cfg ch)]
    (hf : Local c f) (hg : Local c g) : Local c fun s => if p s.cfg (s.chan c) then f s else g s := by
  refine Local.of_cases fun cfg ch => ?_
  by_cases h : p cfg ch
  · exact ⟨f, hf, fun s hcfg hch => if_pos (by rwa [hcfg, hch])⟩
  · exact ⟨g, hg, fun s hcfg hch => if_neg (by rwa [hcfg, hch])⟩

/-! ### The shared operations -/

theorem local_raise_tx (c : Channel) : Local c (raiseCondition c { tx := true }) := by
  rw [funext (raiseCondition_tx c)]
  exact .raise c fun ch => if ch.txIntEnable then sticky c .tx else 0

theorem local_raise_rx (c : Channel) : Local c (raiseCondition c { rx := true }) := by
  rw [funext (raiseCondition_rx c)]
  exact .raise c fun _ => sticky c .rx

theorem local_raise_ext (c : Channel) : Local c (raiseCondition c { ext := true }) := by
  have hcapture : Local c (captureStatusLatch c) :=
    .updChan c (g := fun cfg ch =>
      { ch with statusLatchMask := ch.wr 15 &&& extMask cfg, statusLatchValue := ch.rrs 0 }) fun _ _ => rfl
  refine .of_cases fun cfg ch => ?_
  cases henable : ch.extIntEnable with
  | false =>
    refine ⟨_, .raise c fun _ => 0#8, fun s _ hch => ?_⟩
    rw [raiseCondition_ext_disabled c s (hch ▸ henable), BitVec.or_zero]
  | true =>
    refine ⟨_, Local.comp (.raise c fun _ => sticky c .ext) hcapture, fun s _ hch => ?_⟩
    rw [raiseCondition_ext_enabled c s (hch ▸ henable), captureStatusLatch, updChan_rr3]

theorem local_rxTrigger (c : Channel) : Local c (rxTrigger c) := by
  have hdisarm := Local.updChan c (g := fun _ ch => { ch with armed := false }) fun _ _ => rfl
  exact .ite (fun _ ch => rxFires ch = true) ((local_raise_rx c).comp hdisarm) hdisarm

theorem local_checkReceive (c : Channel) : Local c (checkReceive c) := by
  refine .of_cases fun cfg ch => ?_
  cases hbuffer : ch.rxBuffer with
  | nil => exact ⟨id, .id c, fun s _ hch => by simp [checkReceive, hch, hbuffer]⟩
  | cons v rest =>
    have hdrop := Local.updChan c (g := fun _ ch =>
      { ch with rxBuffer := rest, readQuota := ch.readQuota - 1 }) fun _ _ => rfl
    have hover := Local.updChan c (g := fun _ ch =>
      { ch.setRrs 8 v with rxBuffer := rest, readQuota := ch.readQuota - 1 }) fun _ _ => rfl
    have hpull := Local.updChan c (g := fun _ ch =>
        { ch.setRrs 8 v with rxBuffer := rest, rxdEmpty := false, readQuota := ch.readQuota - 1 }) fun _ _ => rfl
    have hpolicy : Local c (latchFullPolicy c v rest) := by
      refine .of_cases fun cfg _ => ?_
      cases hp : cfg.latchFullPolicy with
      | hold => exact ⟨id, .id c, fun s hcfg _ => by simp [latchFullPolicy, hcfg, hp]⟩
      | drop => exact ⟨_, hdrop, fun s hcfg _ => by simp [latchFullPolicy, hcfg, hp]⟩
      | overwrite => exact ⟨_, hover, fun s hcfg _ => by simp [latchFullPolicy, hcfg, hp]⟩
    have hdeliver := (local_rxTrigger c).comp ((Local.emit c fun _ _ => .inputAvailable c true).comp hpull)
    refine ⟨_, .ite (fun _ ch => ch.readQuota = 0) (.id c) (.ite (fun _ ch => ch.rxEnable = false) (.id c)
      (.ite (fun _ ch => ch.rxdEmpty = false) hpolicy hdeliver)), fun s _ hch => ?_⟩
    simp [checkReceive, hch, hbuffer]

theorem local_noteUnderrun (c : Channel) : Local c (noteUnderrun c) := by
  have hnote := Local.updChan c (g := fun cfg ch => ch.setRrs 0 (ch.rrs 0 ||| cfg.rr0Underrun)) fun _ _ => rfl
  exact .ite (fun cfg ch => ch.rrs 0 &&& cfg.rr0Underrun = 0#8)
    (.ite (fun cfg ch => (cfg.underrunExtInt && ch.wr 15 &&& cfg.rr0Underrun != 0#8) = true)
      ((local_raise_ext c).comp hnote) hnote) (.id c)

theorem local_checkTransmit (c : Channel) : Local c (checkTransmit c) := by
  have hsend := Local.updChan c (g := fun _ ch =>
    { ch with txBuffer := ch.txBuffer ++ [ch.txLatch], txdEmpty := true, writeQuota := ch.writeQuota - 1 })
    fun _ _ => rfl
  have hsent : Local c fun s => raiseCondition c { tx := true } (Machine.emit (.outputByte c (s.chan c).txLatch)
      (s.updChan c fun ch =>
        { ch with txBuffer := ch.txBuffer ++ [ch.txLatch], txdEmpty := true, writeQuota := ch.writeQuota - 1 })) := by
    refine .of_cases fun cfg ch => ?_
    have hemit := (Local.emit c fun _ _ => .outputByte c ch.txLatch).comp hsend
    exact ⟨_, (local_raise_tx c).comp hemit, fun s _ hch => by rw [hch]⟩
  exact .ite (fun _ ch => ch.writeQuota = 0) (.id c) (.ite (fun cfg ch => ringFull cfg ch.txBuffer = true) (.id c)
    (.ite (fun _ ch => ch.txdEmpty = true) (local_noteUnderrun c) hsent))

theorem local_chnAdvance (c : Channel) (n : Nat) : Local c (chnAdvance c n) := by
  have hcount := Local.updChan c (g := fun _ ch => { ch with charClockCounter := ch.charClockCounter - n })
    fun _ _ => rfl
  have htick := Local.updChan c (g := fun cfg ch => { ch with
      charClockCounter := ch.charClockDivisor - (n - ch.charClockCounter) % ch.charClockDivisor
      readQuota := cfg.multiR.get c
      writeQuota := cfg.multiW.get c }) fun _ _ => rfl
  exact .ite (fun _ ch => n < ch.charClockCounter) hcount
    ((local_checkTransmit c).comp ((local_checkReceive c).comp htick))

/-- An operation on one channel and then one on the other: two effects, each as if the other had not been. -/
theorem silent_of_two {c : Channel} {s : State} {f g : State → State} {e e' : Effect}
    (hf : (f s).silent = (s.effect c e).silent)
    (hg : ∀ u : State, u.cfg = s.cfg → u.chan (otherChannel c) = s.chan (otherChannel c) →
      (g u).silent = (u.effect (otherChannel c) e').silent) :
    (g (f s)).silent = ((s.effect c e).effect (otherChannel c) e').silent := by
  have hcfg : (f s).cfg = s.cfg := by
    rw [← silent_cfg, hf, silent_cfg, effect_cfg]
  have hchan : (f s).chan (otherChannel c) = s.chan (otherChannel c) := by
    rw [← silent_chan, hf, silent_chan, effect_chan_other]
  rw [hg (f s) hcfg hchan, ← effect_silent, hf, effect_silent]

/-- Settles O23: each channel's tick is an effect on it, whichever channel comes first, and the effects commute. -/
theorem channelAdvanceOrderImmaterial : Obligations.ChannelAdvanceOrderImmaterial := by
  intro n s
  obtain ⟨eA, h9, hA⟩ := local_chnAdvance .A n s.cfg s.chanA
  obtain ⟨eB, _, hB⟩ := local_chnAdvance .B n s.cfg s.chanB
  refine ⟨_, rfl, ?_⟩
  calc (chnAdvance .B n (chnAdvance .A n s)).silent = ((s.effect .A eA).effect .B eB).silent :=
        silent_of_two (c := .A) (hA s rfl rfl) hB
    _ = ((s.effect .B eB).effect .A eA).silent := effect_comm h9
    _ = (chnAdvance .A n (chnAdvance .B n s)).silent := (silent_of_two (c := .B) (hB s rfl rfl) hA).symm

end Sys2Proof.Machine
end

section
/-! A character tick (R231, R251 to R254, R304): the receive check and the transmit check each on its own side of the
channel's record, the events each can add, and what `advance` leaves of both on either channel. -/

namespace Sys2Proof.Machine

/-! ### Events added -/

/-- The channel that an event is about; the IRQ line is the chip's. -/
def Event.channel : Event → Option Channel
  | .irq _ => none
  | .inputAvailable c _ | .outputByte c _ | .rts c _ | .paramsChanged c _ _ _ _ => some c

/-- From `s` to `t` events are appended, and each of them satisfies `p`. -/
def Adds (p : Event → Prop) (s t : State) : Prop := ∃ l, t.events = s.events ++ l ∧ ∀ e ∈ l, p e

theorem Adds.of_eq {p : Event → Prop} {s t : State} (h : t.events = s.events) : Adds p s t :=
  ⟨[], by rw [h, List.append_nil], by simp⟩

theorem Adds.trans {p : Event → Prop} {s t u : State} (h1 : Adds p s t) (h2 : Adds p t u) : Adds p s u := by
  obtain ⟨l1, heq1, hp1⟩ := h1
  obtain ⟨l2, heq2, hp2⟩ := h2
  refine ⟨l1 ++ l2, by rw [heq2, heq1, List.append_assoc], fun e he => ?_⟩
  rcases List.mem_append.mp he with h | h
  · exact hp1 e h
  · exact hp2 e h

theorem Adds.mono {p q : Event → Prop} {s t : State} (h : Adds p s t) (hpq : ∀ e, p e → q e) : Adds q s t := by
  obtain ⟨l, heq, hp⟩ := h
  exact ⟨l, heq, fun e he => hpq e (hp e he)⟩

/-- Bringing the IRQ line up to date tells the IRQ sink alone (R294, R308). -/
theorem adds_withSticky (s : State) (p : Byte) : Adds (fun e => e.channel = none) s (s.withSticky p) := by
  refine ⟨_, withSticky_events s p, fun e he => ?_⟩
  unfold irqEvents at he
  split at he
  · cases he
  · split at he
    · rw [List.mem_singleton.mp he]
      rfl
    · cases he

theorem adds_emit (e : Event) (s : State) : Adds (· = e) s (emit e s) := by
  refine ⟨_, emit_events e s, fun e' he => ?_⟩
  split at he
  · exact List.mem_singleton.mp he
  · cases he

theorem adds_updChan (p : Event → Prop) (s : State) (c : Channel) (g : ChannelState → ChannelState) :
    Adds p s (s.updChan c g) := .of_eq (updChan_events s c g)

theorem adds_raise_ext (c : Channel) (s : State) :
    Adds (fun e => e.channel = none) s (raiseCondition c { ext := true } s) := by
  cases h : (s.chan c).extIntEnable with
  | false =>
    rw [raiseCondition_ext_disabled c s h]
    exact adds_withSticky s _
  | true =>
    rw [raiseCondition_ext_enabled c s h]
    exact (adds_updChan _ s c _).trans (adds_withSticky _ _)

theorem adds_rxTrigger (c : Channel) (s : State) : Adds (fun e => e.channel = none) s (rxTrigger c s) := by
  rcases rxTrigger_cases c s with ⟨_, h⟩ | ⟨_, h⟩ <;> rw [h]
  · exact (adds_updChan _ s c _).trans (adds_withSticky _ _)
  · exact adds_updChan _ s c _

theorem adds_noteUnderrun (c : Channel) (s : State) : Adds (fun e => e.channel = none) s (noteUnderrun c s) := by
  rcases noteUnderrun_cases c s with ⟨_, h⟩ | ⟨_, _, h⟩ | ⟨_, _, h⟩ <;> rw [h]
  · exact .of_eq rfl
  · exact adds_updChan _ s c _
  · exact (adds_updChan _ s c _).trans (adds_raise_ext c _)

/-- The receive check tells the IRQ sink and the input sink of its channel (R251, R295). -/
theorem adds_checkReceive (c : Channel) (s : State) :
    Adds (fun e => e.channel = none ∨ e = .inputAvailable c true) s (checkReceive c s) := by
  rcases checkReceive_cases c s with h | ⟨v, rest, _, _, _, _, _, h⟩ | ⟨v, rest, _, _, _, _, _, h⟩ |
    ⟨v, rest, _, _, _, _, h⟩ <;> rw [h]
  · exact .of_eq rfl
  · exact adds_updChan _ s c _
  · exact adds_updChan _ s c _
  · exact ((adds_updChan _ s c _).trans ((adds_emit _ _).mono fun _ => .inr)).trans
      ((adds_rxTrigger c _).mono fun _ => .inl)

/-- The transmit check tells the IRQ sink and the output sink of its channel (R253, R296). -/
theorem adds_checkTransmit (c : Channel) (s : State) :
    Adds (fun e => e.channel = none ∨ ∃ v, e = .outputByte c v) s (checkTransmit c s) := by
  rcases checkTransmit_cases c s with ⟨_, h⟩ | ⟨_, _, _, h⟩ | ⟨_, _, _, h⟩ <;> rw [h]
  · exact .of_eq rfl
  · exact (adds_noteUnderrun c s).mono fun _ => .inl
  · rw [raiseCondition_tx]
    exact ((adds_updChan _ s c _).trans ((adds_emit _ _).mono fun _ h => .inr ⟨_, h⟩)).trans
      ((adds_withSticky _ _).mono fun _ => .inl)

/-- `e` is among the events added from `s` to `t`. -/
def NewEvent (e : Event) (s t : State) : Prop := ∃ l, t.events = s.events ++ l ∧ e ∈ l

theorem newEvent_iff {e : Event} {s t : State} {l : List Event} (h : t.events = s.events ++ l) :
    NewEvent e s t ↔ e ∈ l := by
  refine ⟨fun hnew => ?_, fun he => ⟨l, h, he⟩⟩
  obtain ⟨l', h', he⟩ := hnew
  rwa [List.append_cancel_left (h.symm.trans h')]

theorem not_newEvent_self (e : Event) (s : State) : ¬ NewEvent e s s := by
  rw [newEvent_iff (List.append_nil s.events).symm]
  exact List.not_mem_nil

theorem Adds.of_newEvent {p : Event → Prop} {s t : State} (h : Adds p s t) {e : Event} (he : NewEvent e s t) : p e := by
  obtain ⟨l, heq, hp⟩ := h
  exact hp e ((newEvent_iff heq).mp he)

/-- The receive check sends no byte, the transmit check delivers none. -/
theorem not_newEvent_outputByte_checkReceive (c d : Channel) (v : Byte) (s : State) :
    ¬ NewEvent (.outputByte d v) s (checkReceive c s) := by
  intro h
  rcases (adds_checkReceive c s).of_newEvent h with h | h <;> cases h

theorem not_newEvent_inputAvailable_checkTransmit (c d : Channel) (b : Bool) (s : State) :
    ¬ NewEvent (.inputAvailable d b) s (checkTransmit c s) := by
  intro h
  rcases (adds_checkTransmit c s).of_newEvent h with h | ⟨v, h⟩ <;> cases h

/-! ### The two sides of a channel's record -/

/-- The receive side: what the receive check can change. -/
def ChannelState.receiving (ch : ChannelState) : List Byte × Byte × Bool × Nat × Bool :=
  (ch.rxBuffer, ch.rxLatch, ch.rxdEmpty, ch.readQuota, ch.armed)

/-- The transmit side and the external status: what the transmit check can change. -/
def ChannelState.sending (ch : ChannelState) : List Byte × Bool × Nat × Byte × Byte × Byte :=
  (ch.txBuffer, ch.txdEmpty, ch.writeQuota, ch.rrs 0, ch.statusLatchMask, ch.statusLatchValue)

/-- The trigger changes the armed flag of the record and nothing else (R304). -/
theorem rxTrigger_chan (c : Channel) (s : State) : (rxTrigger c s).chan c = { s.chan c with armed := false } := by
  rcases rxTrigger_cases c s with ⟨_, h⟩ | ⟨_, h⟩ <;> rw [h]
  · rw [withSticky_chan, chan_updChan]
  · rw [chan_updChan]

theorem checkReceive_sending (c : Channel) (s : State) : ((checkReceive c s).chan c).sending = (s.chan c).sending := by
  rcases checkReceive_cases c s with h | ⟨v, rest, _, _, _, _, _, h⟩ | ⟨v, rest, _, _, _, _, _, h⟩ |
    ⟨v, rest, _, _, _, _, h⟩ <;> rw [h]
  · simp [ChannelState.sending]
  · simp [ChannelState.sending]
  · rw [rxTrigger_chan]
    simp [ChannelState.sending]

theorem raise_ext_receiving (c : Channel) (s : State) :
    ((raiseCondition c { ext := true } s).chan c).receiving = (s.chan c).receiving := by
  cases h : (s.chan c).extIntEnable with
  | false => rw [raiseCondition_ext_disabled c s h, withSticky_chan]
  | true =>
    rw [raiseCondition_ext_enabled c s h, withSticky_chan, captureStatusLatch, chan_updChan]
    rfl

theorem noteUnderrun_receiving (c : Channel) (s : State) :
    ((noteUnderrun c s).chan c).receiving = (s.chan c).receiving := by
  rcases noteUnderrun_cases c s with ⟨_, h⟩ | ⟨_, _, h⟩ | ⟨_, _, h⟩ <;> rw [h]
  · simp [ChannelState.receiving, ChannelState.rxLatch]
  · rw [raise_ext_receiving]
    simp [ChannelState.receiving, ChannelState.rxLatch]

theorem checkTransmit_receiving (c : Channel) (s : State) :
    ((checkTransmit c s).chan c).receiving = (s.chan c).receiving := by
  rcases checkTransmit_cases c s with ⟨_, h⟩ | ⟨_, _, _, h⟩ | ⟨_, _, _, h⟩ <;> rw [h]
  · exact noteUnderrun_receiving c s
  · rw [raiseCondition_tx, withSticky_chan, emit_chan, chan_updChan]
    rfl

/-! ### Sticky bits of the other classes -/

/-- Setting one sticky bit leaves the others (R22). -/
theorem or_sticky_and_sticky {c : Channel} {k k' : Cond} (h : k ≠ k') (p : Byte) :
    (p ||| sticky c k) &&& sticky c k' = p &&& sticky c k' :=
  or_and_of_disjoint (sticky_disjoint fun hboth => h hboth.2)

theorem or_sticky_and_self (c : Channel) (k : Cond) (p : Byte) : (p ||| sticky c k) &&& sticky c k = sticky c k := by
  rw [BitVec.and_comm, BitVec.or_comm]
  exact bits_or_self _ _

theorem rxTrigger_other_class (c : Channel) {k : Cond} (hk : k ≠ .rx) (s : State) :
    (rxTrigger c s).rr3 &&& sticky c k = s.rr3 &&& sticky c k := by
  rcases rxTrigger_cases c s with ⟨_, h⟩ | ⟨_, h⟩ <;> rw [h]
  · rw [withSticky_rr3, or_sticky_and_sticky hk.symm]
  · rw [updChan_rr3]

theorem checkReceive_other_class (c : Channel) {k : Cond} (hk : k ≠ .rx) (s : State) :
    (checkReceive c s).rr3 &&& sticky c k = s.rr3 &&& sticky c k := by
  rcases checkReceive_cases c s with h | ⟨v, rest, _, _, _, _, _, h⟩ | ⟨v, rest, _, _, _, _, _, h⟩ |
    ⟨v, rest, _, _, _, _, h⟩ <;> rw [h]
  · rw [updChan_rr3]
  · rw [updChan_rr3]
  · rw [rxTrigger_other_class c hk, emit_rr3, updChan_rr3]

theorem raise_ext_other_class (c : Channel) {k : Cond} (hk : k ≠ .ext) (s : State) :
    (raiseCondition c { ext := true } s).rr3 &&& sticky c k = s.rr3 &&& sticky c k := by
  cases h : (s.chan c).extIntEnable with
  | false => rw [raiseCondition_ext_disabled c s h, withSticky_rr3]
  | true => rw [raiseCondition_ext_enabled c s h, withSticky_rr3, or_sticky_and_sticky hk.symm]

theorem noteUnderrun_other_class (c : Channel) {k : Cond} (hk : k ≠ .ext) (s : State) :
    (noteUnderrun c s).rr3 &&& sticky c k = s.rr3 &&& sticky c k := by
  rcases noteUnderrun_cases c s with ⟨_, h⟩ | ⟨_, _, h⟩ | ⟨_, _, h⟩ <;> rw [h]
  · rw [updChan_rr3]
  · rw [raise_ext_other_class c hk, updChan_rr3]

/-- Raising the transmit class touches no other class (R301). -/
theorem raise_tx_other_class (c : Channel) {k : Cond} (hk : k ≠ .tx) (s : State) :
    (raiseCondition c { tx := true } s).rr3 &&& sticky c k = s.rr3 &&& sticky c k := by
  rw [raiseCondition_tx, withSticky_rr3]
  split
  · exact or_sticky_and_sticky hk.symm _
  · exact congrArg (· &&& sticky c k) BitVec.or_zero

theorem checkTransmit_sticky_rx (c : Channel) (s : State) :
    (checkTransmit c s).rr3 &&& sticky c .rx = s.rr3 &&& sticky c .rx := by
  rcases checkTransmit_cases c s with ⟨_, h⟩ | ⟨_, _, _, h⟩ | ⟨_, _, _, h⟩ <;> rw [h]
  · exact noteUnderrun_other_class c (by decide) s
  · rw [raise_tx_other_class c (by decide), emit_rr3, updChan_rr3]

end Sys2Proof.Machine
end

section
/-! What `advance` does on a channel (R230, R231): the other channel's step does not reach it, below the counter it
counts, and at a tick the two checks run on the reloaded record. -/

namespace Sys2Proof.Machine

/-! ### Away from a channel -/

/-- From `s` to `t` nothing changes on channel `c`: its record, its sticky bits, and no event is about it. -/
structure AwayFrom (c : Channel) (s t : State) : Prop where
  cfg : t.cfg = s.cfg
  record : t.chan c = s.chan c
  stickyBits : ∀ k, t.rr3 &&& sticky c k = s.rr3 &&& sticky c k
  events : Adds (fun e => e.channel ≠ some c) s t

theorem AwayFrom.refl (c : Channel) (s : State) : AwayFrom c s s := ⟨rfl, rfl, fun _ => rfl, .of_eq rfl⟩

theorem AwayFrom.trans {c : Channel} {s t u : State} (h1 : AwayFrom c s t) (h2 : AwayFrom c t u) : AwayFrom c s u :=
  ⟨h2.cfg.trans h1.cfg, h2.record.trans h1.record, fun k => (h2.stickyBits k).trans (h1.stickyBits k),
    h1.events.trans h2.events⟩

theorem awayFrom_updChan {c d : Channel} (h : d = otherChannel c) (s : State) (g : ChannelState → ChannelState) :
    AwayFrom d s (s.updChan c g) := by
  subst h
  exact ⟨updChan_cfg s c g, chan_other_updChan s c g, fun k => by rw [updChan_rr3], adds_updChan _ s c g⟩

theorem OnlyRaises.awayFrom {c d : Channel} {s t : State} (h : OnlyRaises c s t) (hd : d = otherChannel c)
    (hevents : Adds (fun e => e.channel ≠ some d) s t) : AwayFrom d s t := by
  subst hd
  exact ⟨h.cfg, h.otherChan, h.otherSticky, hevents⟩

theorem otherChannel_ne (c : Channel) : c ≠ otherChannel c := by cases c <;> decide

/-- Each channel's step stays on it (R230). -/
theorem awayFrom_chnAdvance {c d : Channel} (h : d = otherChannel c) (n : Nat) (s : State) :
    AwayFrom d s (chnAdvance c n s) := by
  have hne : some c ≠ some d := fun heq => otherChannel_ne c ((Option.some.inj heq).trans h)
  rcases chnAdvance_cases c n s with ⟨_, heq⟩ | ⟨_, heq⟩ <;> rw [heq]
  · exact awayFrom_updChan h s _
  · refine ((awayFrom_updChan h s _).trans ((onlyRaises_checkReceive c _).awayFrom h ?_)).trans
      ((onlyRaises_checkTransmit c _).awayFrom h ?_)
    · refine (adds_checkReceive c _).mono fun e he => ?_
      rcases he with he | rfl
      · simp [he]
      · exact hne
    · refine (adds_checkTransmit c _).mono fun e he => ?_
      rcases he with he | ⟨v, rfl⟩
      · simp [he]
      · exact hne

/-- On either channel `advance` does what that channel's step does, what comes before and after being away from it. -/
theorem execAdv_around (n : Nat) (c : Channel) (s : State) : ∃ u t, exec (.adv n) s = .next t ∧ AwayFrom c s u ∧
    AwayFrom c (chnAdvance c n u) t := by
  cases c with
  | A => exact ⟨s, _, rfl, .refl .A s, awayFrom_chnAdvance (c := .B) rfl n _⟩
  | B => exact ⟨chnAdvance .A n s, _, rfl, awayFrom_chnAdvance (c := .A) rfl n s, .refl .B _⟩

/-- Below the counter the channel only counts (R231). -/
theorem chnAdvance_of_lt {c : Channel} {n : Nat} {s : State} (h : n < (s.chan c).charClockCounter) :
    chnAdvance c n s = s.updChan c fun ch => { ch with charClockCounter := ch.charClockCounter - n } := if_pos h

/-- Settles O38: both channels only count. -/
theorem advanceBelowCountersOnlyCounts : Obligations.AdvanceBelowCountersOnlyCounts := by
  intro n s hA hB
  have hexec : exec (.adv n) s = .next (chnAdvance .B n (chnAdvance .A n s)) := rfl
  rw [hexec, chnAdvance_of_lt (c := .A) hA]
  exact congrArg Host.Outcome.next (chnAdvance_of_lt (c := .B) hB)

/-! ### The tick -/

/-- The record at a tick, before the checks: the counter reloaded, the quotas granted (R231). -/
def ChannelState.ticked (cfg : Cfg) (c : Channel) (n : Nat) (ch : ChannelState) : ChannelState :=
  { ch with
    charClockCounter := ch.charClockDivisor - (n - ch.charClockCounter) % ch.charClockDivisor
    readQuota := cfg.multiR.get c
    writeQuota := cfg.multiW.get c }

theorem chnAdvance_of_le {c : Channel} {n : Nat} {s : State} (h : (s.chan c).charClockCounter ≤ n) :
    chnAdvance c n s = checkTransmit c (checkReceive c (s.updChan c (ChannelState.ticked s.cfg c n))) :=
  if_neg (Nat.not_lt.mpr h)

/-- A tick of channel `c` in an `advance` from `s` to `t` that adds the events `l`: the checks run on a state `r` that
holds the reloaded record, and `t` is what they leave, as far as the channel goes. -/
structure Tick (n : Nat) (c : Channel) (s r t : State) (l : List Event) : Prop where
  cfg : r.cfg = s.cfg
  record : r.chan c = (s.chan c).ticked s.cfg c n
  stickyBefore : ∀ k, r.rr3 &&& sticky c k = s.rr3 &&& sticky c k
  recordAfter : t.chan c = (checkTransmit c (checkReceive c r)).chan c
  stickyAfter : ∀ k, t.rr3 &&& sticky c k = (checkTransmit c (checkReceive c r)).rr3 &&& sticky c k
  events : ∀ e, e.channel = some c →
    (e ∈ l ↔ NewEvent e r (checkReceive c r) ∨ NewEvent e (checkReceive c r) (checkTransmit c (checkReceive c r)))

theorem exec_adv_tick {n : Nat} {c : Channel} {s : State} (h : (s.chan c).charClockCounter ≤ n) :
    ∃ r t l, exec (.adv n) s = .next t ∧ t.events = s.events ++ l ∧ Tick n c s r t l := by
  obtain ⟨u, t, hexec, hbefore, hafter⟩ := execAdv_around n c s
  rw [chnAdvance_of_le (by rwa [hbefore.record])] at hafter
  obtain ⟨l0, hl0, hp0⟩ := hbefore.events
  obtain ⟨l3, hl3, hp3⟩ := hafter.events
  obtain ⟨l1, hl1, _⟩ := adds_checkReceive c (u.updChan c (ChannelState.ticked u.cfg c n))
  obtain ⟨l2, hl2, _⟩ := adds_checkTransmit c (checkReceive c (u.updChan c (ChannelState.ticked u.cfg c n)))
  refine ⟨u.updChan c (ChannelState.ticked u.cfg c n), t, l0 ++ l1 ++ l2 ++ l3, hexec, ?_, ?_, ?_, fun k => ?_,
    hafter.record, hafter.stickyBits, fun e he => ?_⟩
  · rw [hl3, hl2, hl1, updChan_events, hl0]
    simp only [List.append_assoc]
  · rw [updChan_cfg, hbefore.cfg]
  · rw [chan_updChan, hbefore.record, hbefore.cfg]
  · rw [updChan_rr3, hbefore.stickyBits]
  · rw [newEvent_iff hl1, newEvent_iff hl2]
    have h0 : e ∉ l0 := fun hmem => hp0 e hmem he
    have h3 : e ∉ l3 := fun hmem => hp3 e hmem he
    simp [h0, h3]

section
variable {n : Nat} {c : Channel} {s r t : State} {l : List Event}

/-- The receive side is what the receive check leaves. -/
theorem Tick.receiving (h : Tick n c s r t l) : (t.chan c).receiving = ((checkReceive c r).chan c).receiving := by
  rw [h.recordAfter, checkTransmit_receiving]

theorem Tick.sticky_rx (h : Tick n c s r t l) : t.rr3 &&& sticky c .rx = (checkReceive c r).rr3 &&& sticky c .rx := by
  rw [h.stickyAfter, checkTransmit_sticky_rx]

theorem Tick.inputAvailable (h : Tick n c s r t l) (b : Bool) :
    Event.inputAvailable c b ∈ l ↔ NewEvent (.inputAvailable c b) r (checkReceive c r) := by
  rw [h.events _ rfl]
  exact or_iff_left (not_newEvent_inputAvailable_checkTransmit c c b _)

theorem Tick.outputByte (h : Tick n c s r t l) (v : Byte) : Event.outputByte c v ∈ l ↔
    NewEvent (.outputByte c v) (checkReceive c r) (checkTransmit c (checkReceive c r)) := by
  rw [h.events _ rfl]
  exact or_iff_right (not_newEvent_outputByte_checkReceive c c v r)

/-- The transmit check finds the transmit side as the tick left it, and the wiring and the write registers as they
were. -/
theorem Tick.cfg_received (h : Tick n c s r t l) : (checkReceive c r).cfg = s.cfg := by
  rw [(onlyRaises_checkReceive c r).cfg, h.cfg]

theorem Tick.wr_received (h : Tick n c s r t l) (i : RegNum) : ((checkReceive c r).chan c).wr i = (s.chan c).wr i := by
  rw [← writeRegs_get, (onlyRaises_checkReceive c r).writeRegs, h.record]
  rfl

theorem Tick.sending_received (h : Tick n c s r t l) :
    ((checkReceive c r).chan c).sending = ((s.chan c).ticked s.cfg c n).sending := by
  rw [checkReceive_sending, h.record]

theorem Tick.sticky_received (h : Tick n c s r t l) {k : Cond} (hk : k ≠ .rx) :
    (checkReceive c r).rr3 &&& sticky c k = s.rr3 &&& sticky c k := by
  rw [checkReceive_other_class c hk, h.stickyBefore]

end

/-- P4 and P5: every tick grants at least one transfer each way. -/
theorem Cfg.multi_pos {cfg : Cfg} (h : cfg.wellFormed = true) (c : Channel) :
    cfg.multiR.get c ≠ 0 ∧ cfg.multiW.get c ≠ 0 := by
  simp only [Cfg.wellFormed, Cfg.countsOk, Bool.and_eq_true, decide_eq_true_eq] at h
  obtain ⟨⟨⟨⟨⟨_, hRA, hRB, hWA, hWB⟩, _⟩, _⟩, _⟩, _⟩ := h
  cases c with
  | A => exact ⟨Nat.one_le_iff_ne_zero.mp hRA, Nat.one_le_iff_ne_zero.mp hWA⟩
  | B => exact ⟨Nat.one_le_iff_ne_zero.mp hRB, Nat.one_le_iff_ne_zero.mp hWB⟩

end Sys2Proof.Machine
end

section
/-! The statements about ticks (R231, R251 to R254, R304): the checks in closed form, read off the record and the
sticky bits that `advance` leaves. -/

namespace Sys2Proof.Machine

/-! ### The quotas pay for the bytes -/

/-- The receive check pays one of the quota for the byte it takes (R251, R252). -/
theorem checkReceive_quota (c : Channel) (s : State) : ∃ k, k ≤ 1 ∧ k ≤ (s.chan c).rxBuffer.length ∧
    ((checkReceive c s).chan c).rxBuffer = (s.chan c).rxBuffer.drop k ∧
    ((checkReceive c s).chan c).readQuota + k = (s.chan c).readQuota := by
  have taken {v : Byte} {rest : List Byte} {q : Nat} (hb : (s.chan c).rxBuffer = v :: rest) (hq : q ≠ 0) :
      1 ≤ (s.chan c).rxBuffer.length ∧ rest = (s.chan c).rxBuffer.drop 1 ∧ q - 1 + 1 = q :=
    ⟨by rw [hb]; exact Nat.succ_le_succ (Nat.zero_le _), by rw [hb]; rfl, Nat.succ_pred_eq_of_ne_zero hq⟩
  rcases checkReceive_cases c s with h | ⟨v, rest, hb, hq, _, _, _, h⟩ | ⟨v, rest, hb, hq, _, _, _, h⟩ |
    ⟨v, rest, hb, hq, _, _, h⟩ <;> rw [h]
  · exact ⟨0, Nat.zero_le _, Nat.zero_le _, rfl, rfl⟩
  · rw [chan_updChan]
    exact ⟨1, le_refl 1, taken hb hq⟩
  · rw [chan_updChan]
    exact ⟨1, le_refl 1, taken hb hq⟩
  · rw [rxTrigger_chan, emit_chan, chan_updChan]
    exact ⟨1, le_refl 1, taken hb hq⟩

theorem noteUnderrun_writeQuota (c : Channel) (s : State) :
    ((noteUnderrun c s).chan c).writeQuota = (s.chan c).writeQuota := by
  rcases noteUnderrun_cases c s with ⟨_, h⟩ | ⟨_, _, h⟩ | ⟨_, _, h⟩ <;> rw [h]
  · rw [chan_updChan, setRrs_writeQuota]
  · cases he : ((s.updChan c fun ch => ch.setRrs 0 (ch.rrs 0 ||| s.cfg.rr0Underrun)).chan c).extIntEnable with
    | false => rw [raiseCondition_ext_disabled c _ he, withSticky_chan, chan_updChan, setRrs_writeQuota]
    | true =>
      rw [raiseCondition_ext_enabled c _ he, withSticky_chan, captureStatusLatch, chan_updChan, chan_updChan]
      rfl

/-- The transmit check pays one of the quota for the byte it adds (R253). -/
theorem checkTransmit_quota (c : Channel) (s : State) : ∃ l : List Byte, l.length ≤ 1 ∧
    ((checkTransmit c s).chan c).txBuffer = (s.chan c).txBuffer ++ l ∧
    ((checkTransmit c s).chan c).writeQuota + l.length = (s.chan c).writeQuota := by
  rcases checkTransmit_cases c s with ⟨_, h⟩ | ⟨_, _, _, h⟩ | ⟨hq, _, _, h⟩ <;> rw [h]
  · exact ⟨[], by decide, (List.append_nil _).symm, rfl⟩
  · refine ⟨[], by decide, ?_, noteUnderrun_writeQuota c s⟩
    rw [(noteUnderrun_buffers c s).2, List.append_nil]
  · rw [raiseCondition_tx, withSticky_chan, emit_chan, chan_updChan]
    exact ⟨_, le_refl 1, rfl, Nat.succ_pred_eq_of_ne_zero hq⟩

/-! ### What a step of `advance` leaves alone -/

theorem chnAdvance_result (c : Channel) (n : Nat) (s : State) : (chnAdvance c n s).result = s.result := by
  rcases chnAdvance_cases c n s with ⟨_, h⟩ | ⟨_, h⟩ <;> rw [h]
  · exact updChan_result s c _
  · rw [(onlyRaises_checks c _).result, updChan_result]

/-- The write registers, the read registers but RR0 and the receive latch, the divisor and the cached parameters
(R231). -/
theorem chnAdvance_frame (c : Channel) (n : Nat) (s : State) :
    ((chnAdvance c n s).chan c).writeRegs = (s.chan c).writeRegs ∧
    (∀ i, i ≠ 0 → i ≠ 8 → ((chnAdvance c n s).chan c).rrs i = (s.chan c).rrs i) ∧
    ((chnAdvance c n s).chan c).charClockDivisor = (s.chan c).charClockDivisor ∧
    ((chnAdvance c n s).chan c).params = (s.chan c).params := by
  rcases chnAdvance_cases c n s with ⟨_, h⟩ | ⟨_, h⟩ <;> rw [h]
  · rw [chan_updChan]
    exact ⟨rfl, fun _ _ _ => rfl, rfl, rfl⟩
  · have hchecks := onlyRaises_checks c (s.updChan c fun ch => { ch with
      charClockCounter := ch.charClockDivisor - (n - ch.charClockCounter) % ch.charClockDivisor
      readQuota := s.cfg.multiR.get c
      writeQuota := s.cfg.multiW.get c })
    have hregs := hchecks.readRegs
    rw [hchecks.writeRegs, hchecks.divisor, hchecks.params]
    rw [chan_updChan] at hregs ⊢
    exact ⟨rfl, hregs, rfl, rfl⟩

/-- At a tick the counter is reloaded, and each quota is its grant less the bytes moved. -/
theorem tick_clock_and_quotas {c : Channel} {n : Nat} {s : State} (h : (s.chan c).charClockCounter ≤ n) :
    let t := chnAdvance c n s
    (t.chan c).charClockCounter =
      (s.chan c).charClockDivisor - (n - (s.chan c).charClockCounter) % (s.chan c).charClockDivisor ∧
    ∃ (taken : Nat) (added : List Byte), taken ≤ 1 ∧ taken ≤ (s.chan c).rxBuffer.length ∧ added.length ≤ 1 ∧
      (t.chan c).rxBuffer = (s.chan c).rxBuffer.drop taken ∧ (t.chan c).readQuota + taken = s.cfg.multiR.get c ∧
      (t.chan c).txBuffer = (s.chan c).txBuffer ++ added ∧
      (t.chan c).writeQuota + added.length = s.cfg.multiW.get c := by
  intro t
  have ht : t = checkTransmit c (checkReceive c (s.updChan c (ChannelState.ticked s.cfg c n))) := chnAdvance_of_le h
  generalize hr : s.updChan c (ChannelState.ticked s.cfg c n) = r at ht
  have hrecord : r.chan c = (s.chan c).ticked s.cfg c n := by rw [← hr, chan_updChan]
  obtain ⟨taken, htaken, hlen, hrx, hread⟩ := checkReceive_quota c r
  obtain ⟨added, hadded, htx, hwrite⟩ := checkTransmit_quota c (checkReceive c r)
  have hreceiving := checkTransmit_receiving c (checkReceive c r)
  have hsending := checkReceive_sending c r
  simp only [ChannelState.receiving, Prod.mk.injEq] at hreceiving
  simp only [ChannelState.sending, Prod.mk.injEq] at hsending
  obtain ⟨hrx', _, _, hread', _⟩ := hreceiving
  obtain ⟨htx', _, hwrite', _⟩ := hsending
  rw [ht, (onlyRaises_checks c r).counter, hrx', hread', htx, hrx, htx']
  rw [hwrite'] at hwrite
  rw [hrecord] at hlen hread hwrite ⊢
  exact ⟨rfl, taken, added, htaken, hlen, hadded, rfl, hread, rfl, hwrite⟩

/-- Settles O39: on each channel `advance` is that channel's step, which counts below the counter and ticks once at or
past it. -/
theorem advanceMovesBothClocks : Obligations.AdvanceMovesBothClocks := by
  intro n s _
  obtain ⟨t, hexec⟩ := exec_completes (.adv n) s
  have ht : t = chnAdvance .B n (chnAdvance .A n s) := (Host.Outcome.next.inj hexec).symm
  have hlife : t.lifecycle = s.lifecycle := by
    rw [ht, (contained_chnAdvance .B n _).lifecycle, (contained_chnAdvance .A n s).lifecycle]
  refine ⟨t, hexec, by simp [ht], hlife, by rw [ht, chnAdvance_result, chnAdvance_result], fun c => ?_⟩
  obtain ⟨u, t', hexec', hbefore, hafter⟩ := execAdv_around n c s
  obtain rfl := Host.Outcome.next.inj (hexec.symm.trans hexec')
  obtain ⟨hwr, hrrs, hdivisor, hparams⟩ := chnAdvance_frame c n u
  have htick := tick_clock_and_quotas (c := c) (n := n) (s := u)
  have hcount := chnAdvance_of_lt (c := c) (n := n) (s := u)
  rw [hbefore.record] at hwr hrrs hdivisor hparams htick hcount
  rw [hbefore.cfg] at htick
  rw [hafter.record]
  refine ⟨fun hn => ?_, htick, hwr, hrrs, hdivisor, hparams⟩
  rw [hcount hn, chan_updChan, hbefore.record]

end Sys2Proof.Machine
end

section
/-! What a tick does on either side (R251 to R254, R304): each check's effect in each of its cases, then the three
statements about a tick. -/

namespace Sys2Proof.Machine

/-! ### The receive check -/

/-- What is new stays new when more is added. -/
theorem NewEvent.then {p : Event → Prop} {e : Event} {s t u : State} (h : NewEvent e s t) (hadds : Adds p t u) :
    NewEvent e s u := by
  obtain ⟨l, hl, he⟩ := h
  obtain ⟨l', hl', _⟩ := hadds
  exact ⟨l ++ l', by rw [hl', hl, List.append_assoc], List.mem_append_left _ he⟩

/-- The receive side, the receive sticky bit and the event after a delivery (R251, R304). -/
theorem checkReceive_delivers_effect {c : Channel} {s : State} {v : Byte} {rest : List Byte}
    (hbuffer : (s.chan c).rxBuffer = v :: rest) (hquota : (s.chan c).readQuota ≠ 0)
    (henable : ((s.chan c).wr 3).getLsbD 0 = true) (hlatch : (s.chan c).rxdEmpty = true) :
    ((checkReceive c s).chan c).receiving = (rest, v, false, (s.chan c).readQuota - 1, false) ∧
    (s.cfg.sinks.inputAvailable.get c = true → NewEvent (.inputAvailable c true) s (checkReceive c s)) ∧
    (checkReceive c s).rr3 &&& sticky c .rx =
      if ((s.chan c).wr 1).extractLsb' 3 2 = 2#2 ∨ (((s.chan c).wr 1).extractLsb' 3 2 = 1#2 ∧ (s.chan c).armed = true)
        then sticky c .rx else s.rr3 &&& sticky c .rx := by
  have hrecord : ({ (s.chan c).setRrs 8 v with
      rxBuffer := rest, rxdEmpty := false, readQuota := (s.chan c).readQuota - 1, armed := false } :
      ChannelState).receiving = (rest, v, false, (s.chan c).readQuota - 1, false) := by
    simp [ChannelState.receiving, ChannelState.rxLatch]
  rw [checkReceive_delivers hbuffer hquota henable hlatch]
  dsimp only
  split
  · refine ⟨?_, fun hsink => ?_, or_sticky_and_self c .rx s.rr3⟩
    · cases c <;> exact hrecord
    · exact NewEvent.then ⟨[.inputAvailable c true], by rw [if_pos hsink], List.mem_singleton_self _⟩
        (adds_withSticky _ _)
  · refine ⟨?_, fun hsink => ?_, by rw [updChan_rr3]⟩
    · cases c <;> exact hrecord
    · exact ⟨[.inputAvailable c true], by rw [if_pos hsink], List.mem_singleton_self _⟩

/-- With the latch full the policy decides (R252). -/
theorem checkReceive_full {c : Channel} {s : State} {v : Byte} {rest : List Byte}
    (hbuffer : (s.chan c).rxBuffer = v :: rest) (hquota : (s.chan c).readQuota ≠ 0)
    (henable : ((s.chan c).wr 3).getLsbD 0 = true) (hlatch : (s.chan c).rxdEmpty = false) :
    checkReceive c s = latchFullPolicy c v rest s := by
  simp [checkReceive, hbuffer, hquota, hlatch, ChannelState.rxEnable, henable]

/-- No policy tells a sink or sets a sticky bit (R252). -/
theorem latchFullPolicy_quiet (c : Channel) (v : Byte) (rest : List Byte) (s : State) :
    (latchFullPolicy c v rest s).events = s.events ∧ (latchFullPolicy c v rest s).rr3 = s.rr3 := by
  unfold latchFullPolicy
  split <;> simp

/-- What the policy leaves of the receive side (R252, D13). -/
theorem latchFullPolicy_receiving {c : Channel} {s : State} {v : Byte} {rest : List Byte}
    (hbuffer : (s.chan c).rxBuffer = v :: rest) (hlatch : (s.chan c).rxdEmpty = false) :
    ((latchFullPolicy c v rest s).chan c).receiving = match s.cfg.latchFullPolicy with
      | .hold => (v :: rest, (s.chan c).rxLatch, false, (s.chan c).readQuota, (s.chan c).armed)
      | .drop => (rest, (s.chan c).rxLatch, false, (s.chan c).readQuota - 1, (s.chan c).armed)
      | .overwrite => (rest, v, false, (s.chan c).readQuota - 1, (s.chan c).armed) := by
  cases hp : s.cfg.latchFullPolicy
  · simp [latchFullPolicy, hp, ChannelState.receiving, hbuffer, hlatch]
  · simp [latchFullPolicy, hp, ChannelState.receiving, hlatch, ChannelState.rxLatch]
  · simp [latchFullPolicy, hp, ChannelState.receiving, hlatch, ChannelState.rxLatch]

/-- No event is new where the event list is the same. -/
theorem not_newEvent_of_events {e : Event} {s t : State} (h : t.events = s.events) : ¬ NewEvent e s t := by
  rw [newEvent_iff (l := []) (by rw [h, List.append_nil])]
  exact List.not_mem_nil

/-- Settles O41: the receive check on the reloaded record, in the three cases it tells apart. -/
theorem tickDeliversReceivedByte : Obligations.TickDeliversReceivedByte := by
  intro n c s _ hwf hn ch side enabled mode full
  obtain ⟨r, t, l, hexec, hevents, htick⟩ := exec_adv_tick hn
  have hquota : (r.chan c).readQuota ≠ 0 := by
    rw [htick.record]
    exact (Cfg.multi_pos hwf c).1
  have hreceiving := htick.receiving
  have hsticky := htick.sticky_rx
  have hevent := htick.inputAvailable
  refine ⟨t, l, hexec, hevents, fun v rest hbuffer henable hlatch => ?_, fun v rest hbuffer henable hlatch => ?_,
    fun hidle => ?_⟩
  · obtain ⟨hrecord, hnew, hbit⟩ := checkReceive_delivers_effect (s := r) (by rw [htick.record]; exact hbuffer) hquota
      (by rw [htick.record]; exact henable) (by rw [htick.record]; exact hlatch)
    rw [htick.record, htick.stickyBefore] at hbit
    rw [htick.record] at hrecord
    rw [htick.cfg] at hnew
    exact ⟨hreceiving.trans hrecord, fun hsink => (hevent true).mpr (hnew hsink), hsticky.trans hbit⟩
  · have hbuffer' : (r.chan c).rxBuffer = v :: rest := by rw [htick.record]; exact hbuffer
    have hlatch' : (r.chan c).rxdEmpty = false := by rw [htick.record]; exact hlatch
    rw [checkReceive_full hbuffer' hquota (by rw [htick.record]; exact henable) hlatch'] at hreceiving hsticky hevent
    obtain ⟨hquiet, hbits⟩ := latchFullPolicy_quiet c v rest r
    refine ⟨?_, fun b => (hevent b).not.mpr (not_newEvent_of_events hquiet), ?_⟩
    · rw [latchFullPolicy_receiving hbuffer' hlatch', htick.cfg, htick.record] at hreceiving
      exact hreceiving
    · rw [hsticky, hbits, htick.stickyBefore]
  · have hidle' : checkReceive c r = r := by
      apply checkReceive_idle
      rw [htick.record]
      rcases hidle with h | h
      · exact .inl h
      · exact .inr (.inr h)
    rw [hidle'] at hreceiving hsticky hevent
    rw [htick.record] at hreceiving
    rw [htick.stickyBefore] at hsticky
    exact ⟨hreceiving, fun b => (hevent b).not.mpr (not_newEvent_self _ r), hsticky⟩

/-! ### The transmit check -/

/-- Without an empty latch and room together no underrun is noted: the external status stays (R253, R254). -/
theorem checkTransmit_status {c : Channel} {s : State}
    (h : (s.chan c).txdEmpty = false ∨ (s.chan c).txBuffer.length = s.cfg.ringCap - 1) :
    ((checkTransmit c s).chan c).readRegs = (s.chan c).readRegs ∧
    ((checkTransmit c s).chan c).statusLatchMask = (s.chan c).statusLatchMask ∧
    ((checkTransmit c s).chan c).statusLatchValue = (s.chan c).statusLatchValue ∧
    (checkTransmit c s).rr3 &&& sticky c .ext = s.rr3 &&& sticky c .ext := by
  rcases checkTransmit_cases c s with ⟨_, heq⟩ | ⟨_, hroom, hempty, _⟩ | ⟨_, _, _, heq⟩
  · rw [heq]
    exact ⟨rfl, rfl, rfl, rfl⟩
  · rcases h with h | h
    · rw [h] at hempty
      cases hempty
    · exact absurd h (ringFull_eq_false.mp hroom)
  · rw [heq, raise_tx_other_class c (by decide), raiseCondition_tx, withSticky_chan, emit_chan, chan_updChan, emit_rr3,
      updChan_rr3]
    exact ⟨rfl, rfl, rfl, rfl⟩

/-- The transmit side, the transmit sticky bit and the event after a byte is sent (R253, R301). -/
theorem checkTransmit_sends_effect {c : Channel} {s : State} (hquota : (s.chan c).writeQuota ≠ 0)
    (hroom : (s.chan c).txBuffer.length ≠ s.cfg.ringCap - 1) (hlatch : (s.chan c).txdEmpty = false) :
    (checkTransmit c s).chan c = { s.chan c with
      txBuffer := (s.chan c).txBuffer ++ [(s.chan c).txLatch], txdEmpty := true
      writeQuota := (s.chan c).writeQuota - 1 } ∧
    (s.cfg.sinks.outputByte.get c = true → NewEvent (.outputByte c (s.chan c).txLatch) s (checkTransmit c s)) ∧
    (checkTransmit c s).rr3 &&& sticky c .tx =
      if ((s.chan c).wr 1).getLsbD 1 then sticky c .tx else s.rr3 &&& sticky c .tx := by
  rw [checkTransmit_sends hquota hroom hlatch]
  refine ⟨by cases c <;> rfl, fun hsink => ?_, ?_⟩
  · exact NewEvent.then ⟨[.outputByte c (s.chan c).txLatch], by rw [if_pos hsink], List.mem_singleton_self _⟩
      (adds_withSticky _ _)
  · rw [withSticky_rr3]
    split
    · exact or_sticky_and_self c .tx s.rr3
    · rfl

/-- Settles O42: the transmit check on what the receive check leaves, which is the reloaded transmit side. -/
theorem tickSendsLatchedByte : Obligations.TickSendsLatchedByte := by
  intro n c s _ hwf hn ch side status full
  obtain ⟨r, t, l, hexec, hevents, htick⟩ := exec_adv_tick hn
  have hcfg := htick.cfg_received
  have hsending := htick.sending_received
  simp only [ChannelState.sending, Prod.mk.injEq] at hsending
  obtain ⟨hbuffer, hempty, hquota, hrr0, hmask, hvalue⟩ := hsending
  have hlatch : ((checkReceive c r).chan c).txLatch = ch.txLatch := htick.wr_received 8
  have hrecord := htick.recordAfter
  have hbits := htick.stickyAfter
  have hevent := htick.outputByte
  have hfull {b : Nat} (h : ch.txBuffer.length = b) : ((checkReceive c r).chan c).txBuffer.length = b := hbuffer ▸ h
  refine ⟨t, l, hexec, hevents, fun h => ?_, fun h hroom => ?_, fun h => ?_⟩
  · obtain ⟨hregs, hmask', hvalue', hext⟩ := checkTransmit_status (c := c) (s := checkReceive c r)
      (h.imp hempty.trans fun h => by rw [hcfg]; exact hfull h)
    refine ⟨?_, by rw [hbits, hext, htick.sticky_received (by decide)]⟩
    have hrrs : (t.chan c).rrs 0 = ch.rrs 0 := by
      rw [hrecord, ← readRegs_get, hregs, readRegs_get, hrr0]
      rfl
    simp only [status, Prod.mk.injEq]
    exact ⟨hrrs, by rw [hrecord, hmask', hmask]; rfl, by rw [hrecord, hvalue', hvalue]; rfl⟩
  · obtain ⟨hsent, hnew, htx⟩ := checkTransmit_sends_effect (c := c) (s := checkReceive c r)
      (by rw [hquota]; exact (Cfg.multi_pos hwf c).2) (by rw [hcfg, hbuffer]; exact hroom) (hempty.trans h)
    rw [htick.wr_received, htick.sticky_received (by decide)] at htx
    rw [hcfg, hlatch] at hnew
    refine ⟨?_, fun hsink => (hevent _).mpr (hnew hsink), hbits .tx |>.trans htx⟩
    rw [hrecord, hsent]
    simp only [side, Prod.mk.injEq, hbuffer, hquota, hlatch]
    exact ⟨rfl, hlatch, trivial, rfl⟩
  · have hidle : checkTransmit c (checkReceive c r) = checkReceive c r :=
      checkTransmit_idle (.inr (by rw [hcfg]; exact hfull h))
    rw [hidle] at hrecord hbits hevent
    refine ⟨?_, fun v => (hevent v).not.mpr (not_newEvent_self _ _), by rw [hbits, htick.sticky_received (by decide)]⟩
    simp only [side, Prod.mk.injEq, hrecord, hbuffer, hempty, hquota, hlatch]
    exact ⟨rfl, trivial, rfl, rfl⟩

/-! ### The underrun -/

/-- A mask that is a single bit is set already where it finds a bit. -/
theorem or_eq_self_of_isSingleBit {m : Byte} (hm : isSingleBit m = true) {x : Byte} (hx : x &&& m ≠ 0#8) :
    x ||| m = x := by
  have single : ∀ k : Fin 8, ∀ x : Byte, x &&& 1#8 <<< k.val ≠ 0#8 → x ||| 1#8 <<< k.val = x := by decide
  obtain ⟨k, rfl⟩ := isSingleBit_iff_shift m hm
  exact single k x hx

theorem Cfg.isSingleBit_underrun {cfg : Cfg} (h : cfg.wellFormed = true) : isSingleBit cfg.rr0Underrun = true := by
  simp only [Cfg.wellFormed, Cfg.rr0MasksOk, Bool.and_eq_true, List.all_cons] at h
  obtain ⟨⟨⟨⟨_, ⟨_, _, _, _, hunderrun, _⟩, _⟩, _⟩, _⟩, _⟩ := h
  exact hunderrun

theorem setRrs_self (ch : ChannelState) (i : RegNum) : ch.setRrs i (ch.rrs i) = ch := by
  have hset : ch.readRegs.set i.val (ch.rrs i) i.isLt = ch.readRegs := Vector.set_getElem_self i.isLt
  rw [ChannelState.setRrs, hset]

/-- Whether an underrun is new, and P22, WR15 and WR1 let it raise the external/status condition (R254, R301). -/
abbrev ChannelState.underrunRaises (cfg : Cfg) (ch : ChannelState) : Prop :=
  ch.rrs 0 &&& cfg.rr0Underrun = 0#8 ∧ cfg.underrunExtInt = true ∧ ch.wr 15 &&& cfg.rr0Underrun ≠ 0#8 ∧
    (ch.wr 1).getLsbD 0 = true

/-- The record with the underrun noted, and the snapshot taken if the condition is raised (R254, R302). -/
def ChannelState.underrunNoted (cfg : Cfg) (ch : ChannelState) : ChannelState :=
  { ch.setRrs 0 (ch.rrs 0 ||| cfg.rr0Underrun) with
    statusLatchMask := if ch.underrunRaises cfg then ch.wr 15 &&& extMask cfg else ch.statusLatchMask
    statusLatchValue := if ch.underrunRaises cfg then ch.rrs 0 ||| cfg.rr0Underrun else ch.statusLatchValue }

/-- The record and the sticky register after an underrun is noted (R254): the condition is raised exactly if the bit
was 0 and all three enables are given. -/
theorem noteUnderrun_effect (c : Channel) {s : State} (hwf : s.cfg.wellFormed = true) :
    (noteUnderrun c s).chan c = (s.chan c).underrunNoted s.cfg ∧
    (noteUnderrun c s).rr3 = if (s.chan c).underrunRaises s.cfg then s.rr3 ||| sticky c .ext else s.rr3 := by
  rcases noteUnderrun_cases c s with ⟨hset, h⟩ | ⟨_, hmasked, h⟩ | ⟨hclear, hunmasked, h⟩ <;> rw [h]
  · have hnot : ¬ (s.chan c).underrunRaises s.cfg := fun hraises => hset hraises.1
    rw [ChannelState.underrunNoted, if_neg hnot, if_neg hnot, if_neg hnot,
      or_eq_self_of_isSingleBit (Cfg.isSingleBit_underrun hwf) hset, setRrs_self]
    exact ⟨rfl, rfl⟩
  · have hnot : ¬ (s.chan c).underrunRaises s.cfg := by
      rintro ⟨_, hext, hwr, _⟩
      simp [hext, hwr] at hmasked
    rw [ChannelState.underrunNoted, if_neg hnot, if_neg hnot, if_neg hnot, chan_updChan, updChan_rr3]
    exact ⟨rfl, rfl⟩
  · simp only [Bool.and_eq_true, bne_iff_ne] at hunmasked
    obtain ⟨hext, hwr⟩ := hunmasked
    cases henable : (s.chan c).extIntEnable with
    | false =>
      have hnot : ¬ (s.chan c).underrunRaises s.cfg := by
        rintro ⟨_, _, _, hbit⟩
        exact Bool.false_ne_true (henable.symm.trans hbit)
      rw [raiseCondition_ext_disabled c _ (by rw [chan_updChan]; exact henable), ChannelState.underrunNoted,
        if_neg hnot, if_neg hnot, if_neg hnot, withSticky_chan, chan_updChan, withSticky_rr3, updChan_rr3]
      exact ⟨rfl, rfl⟩
    | true =>
      have hraises : (s.chan c).underrunRaises s.cfg := ⟨hclear, hext, hwr, henable⟩
      rw [raiseCondition_ext_enabled c _ (by rw [chan_updChan]; exact henable), ChannelState.underrunNoted,
        if_pos hraises, if_pos hraises, if_pos hraises, withSticky_chan, captureStatusLatch, chan_updChan, chan_updChan,
        withSticky_rr3, updChan_rr3, updChan_cfg]
      refine ⟨?_, rfl⟩
      simp only [wr_setRrs, rrs_setRrs, if_true]

/-- Whether the condition is raised, and what is noted, depend on the transmit side and the write registers alone. -/
theorem underrunRaises_congr {cfg : Cfg} {ch ch' : ChannelState} (h : ch.sending = ch'.sending)
    (hwr : ∀ i, ch.wr i = ch'.wr i) : ch.underrunRaises cfg ↔ ch'.underrunRaises cfg := by
  simp only [ChannelState.sending, Prod.mk.injEq] at h
  obtain ⟨_, _, _, hrr0, _, _⟩ := h
  rw [ChannelState.underrunRaises, ChannelState.underrunRaises, hrr0, hwr, hwr]

theorem underrunNoted_sending_congr {cfg : Cfg} {ch ch' : ChannelState} (h : ch.sending = ch'.sending)
    (hwr : ∀ i, ch.wr i = ch'.wr i) : (ch.underrunNoted cfg).sending = (ch'.underrunNoted cfg).sending := by
  have hraises := underrunRaises_congr (cfg := cfg) h hwr
  simp only [ChannelState.sending, Prod.mk.injEq] at h
  obtain ⟨hbuffer, hempty, hquota, hrr0, hmask, hvalue⟩ := h
  simp only [ChannelState.sending, ChannelState.underrunNoted, hraises, rrs_mk, readRegs_get, rrs_setRrs,
    setRrs_txBuffer, setRrs_txdEmpty, setRrs_writeQuota, hbuffer, hempty, hquota, hrr0, hmask, hvalue, hwr]

/-- With quota and room an empty latch is an underrun (R253). -/
theorem checkTransmit_underruns {c : Channel} {s : State} (hquota : (s.chan c).writeQuota ≠ 0)
    (hroom : (s.chan c).txBuffer.length ≠ s.cfg.ringCap - 1) (hlatch : (s.chan c).txdEmpty = true) :
    checkTransmit c s = noteUnderrun c s := by
  simp [checkTransmit, hquota, ringFull_eq_false.mpr hroom, hlatch]

/-- Settles O40: the underrun is noted on what the receive check leaves, where the transmit side, the external status
and the write registers are as the tick left them. -/
theorem idleTickNotesUnderrun : Obligations.IdleTickNotesUnderrun := by
  intro n c s _ hwf hn hlatch hroom ch raised byte mask value
  obtain ⟨r, t, l, hexec, hevents, htick⟩ := exec_adv_tick hn
  have hcfg := htick.cfg_received
  have hsending := htick.sending_received
  have hsides := hsending
  simp only [ChannelState.sending, Prod.mk.injEq] at hsides
  obtain ⟨hbuffer, hempty, hquota, _⟩ := hsides
  have hunderrun : checkTransmit c (checkReceive c r) = noteUnderrun c (checkReceive c r) :=
    checkTransmit_underruns (by rw [hquota]; exact (Cfg.multi_pos hwf c).2) (by rw [hcfg, hbuffer]; exact hroom)
      (hempty.trans hlatch)
  obtain ⟨hnoted, hbits⟩ := noteUnderrun_effect c (s := checkReceive c r) (by rw [hcfg]; exact hwf)
  rw [← hunderrun] at hnoted hbits
  rw [hcfg] at hnoted hbits
  have hrecord := htick.recordAfter.trans hnoted
  have hraises : ((checkReceive c r).chan c).underrunRaises s.cfg ↔ raised :=
    underrunRaises_congr (ch' := ch.ticked s.cfg c n) hsending htick.wr_received
  have hafter : (t.chan c).sending = ((ch.ticked s.cfg c n).underrunNoted s.cfg).sending :=
    hrecord ▸ underrunNoted_sending_congr hsending htick.wr_received
  simp only [ChannelState.sending, Prod.mk.injEq] at hafter
  obtain ⟨hbuffer', hempty', hquota', hrr0', hmask', hvalue'⟩ := hafter
  refine ⟨t, l, hexec, hevents, ?_, hmask', hvalue', hbuffer', hempty'.trans hlatch, hquota',
    fun v => ?_, ?_, ?_, fun hnil => ?_⟩
  · rw [hrr0', ChannelState.underrunNoted, rrs_mk, readRegs_get, rrs_setRrs, if_pos rfl]
    rfl
  · rw [htick.outputByte, hunderrun]
    intro hnew
    cases (adds_noteUnderrun c _).of_newEvent hnew
  · rw [htick.stickyAfter, hbits]
    by_cases hr : raised
    · rw [if_pos hr, if_pos (hraises.mpr hr), or_sticky_and_self]
    · rw [if_neg hr, if_neg (hr ∘ hraises.mp), htick.sticky_received (by decide)]
  · rw [htick.stickyAfter, hunderrun, noteUnderrun_other_class c (by decide), htick.sticky_received (by decide)]
  · have hidle : checkReceive c r = r := checkReceive_idle (.inl (by rw [htick.record]; exact hnil))
    rw [hrecord, hidle, htick.record]
    rfl

end Sys2Proof.Machine
end
